-- ==== Sys2Proof/Word.lean ====
section
/-! DEFINITION. The two widths of the machine (00_scope.md R6 and R8): bytes and 16-bit words, both
wrapping (R9: `+8` is addition of bytes, `+16` is addition of words). -/

namespace Sys2Proof

/-- `REG8_WIDTH`: a byte, an unsigned 8-bit value (R6, R8). -/
abbrev Byte := BitVec 8

/-- `REG16_WIDTH` and `ADDR_WIDTH`: a word, an unsigned 16-bit value or an address (R6, R8). -/
abbrev Word := BitVec 16

end Sys2Proof
end

