-- ==== Sys2Proof/Config.lean ====
section
/-! DEFINITION. The parameters of 00_scope.md R6 that are not widths. The two OPEN parameters of the
spec are not fixed here: `ILLEGAL_OPCODE_MODE` is a field of State (log entry 2) and `MEM0` is the
argument of `State.create` (log entry 4). -/

namespace Sys2Proof

/-- The values of the OPEN parameter `ILLEGAL_OPCODE_MODE` (R6; 92_eei_decisions.md D1).
`fault` is the spec's default. -/
inductive IllegalOpcodeMode where
  | fault
  | nop
  | hang
  deriving DecidableEq, Repr

/-- `CB_PREFIX`: the single prefix opcode (R6). -/
def Config.cbPrefix : Byte := 0xCB#8

/-- `HIGH_PAGE_BASE`: the page the LDH and (C) forms reach (R6, R116). -/
def Config.highPageBase : Word := 0xFF00#16

/-- `ILLEGAL_OPCODE_CYCLES`: what an illegal opcode costs in `nop` mode (R6, D1; the spec's choice,
log entry 3). -/
def Config.illegalOpcodeCycles : Nat := 1

/-- `CLOCKS_PER_MCYCLE`: clock ticks in one machine cycle (R6, R128). -/
def Config.clocksPerMachineCycle : Nat := 4

/-- `MEM_SIZE`: the number of bytes of the address space (R6, R70). -/
def Config.memSize : Nat := 65536

/-- What a byte of memory that no cell lists reads as. DESIGN CHOICE, log entry 4: the spec gives the
launch contents to the caller (`MEM0`, D4), and a caller's memory is a list of cells over this byte. -/
def Config.unlistedByte : Byte := 0x00#8

end Sys2Proof
end

