-- ==== Sys2Proof/Syntax.lean ====
section
/-! DEFINITION. The instructions of spec/opcode_table.json, one constructor per row (256 base rows, then
256 CB rows), and the selectors of 30_encoding.md §2 by which the rows are laid out. An operand a row
carries in its immediate bytes is the constructor's argument. -/

namespace Sys2Proof

/-- The 3-bit register selector `r` (R102); `indHL` is the byte at the address in HL. -/
inductive Operand8 where
  | b
  | c
  | d
  | e
  | h
  | l
  | indHL
  | a
  deriving DecidableEq, Repr

/-- The 2-bit pair selector `rr` (R104). -/
inductive Pair where
  | bc
  | de
  | hl
  | sp
  deriving DecidableEq, Repr

/-- The 2-bit stack selector `qq` (R105). -/
inductive StackPair where
  | bc
  | de
  | hl
  | af
  deriving DecidableEq, Repr

/-- The 2-bit indirect selector `mem` (R106). -/
inductive Indirect where
  | bc
  | de
  | hlInc
  | hlDec
  deriving DecidableEq, Repr

/-- The 2-bit condition code `cc` (R107). -/
inductive Cond where
  | nz
  | z
  | nc
  | c
  deriving DecidableEq, Repr

/-- The 3-bit ALU operation (R108). -/
inductive AluOp where
  | add
  | adc
  | sub
  | sbc
  | and
  | xor
  | or
  | cp
  deriving DecidableEq, Repr

/-- The 3-bit rotate or shift operation (R109). -/
inductive RotOp where
  | rlc
  | rrc
  | rl
  | rr
  | sla
  | sra
  | swap
  | srl
  deriving DecidableEq, Repr

/-- The bit index `b` (R110). -/
inductive BitIndex where
  | b0
  | b1
  | b2
  | b3
  | b4
  | b5
  | b6
  | b7
  deriving DecidableEq, Repr

/-- The eight restart targets (R111), named by their addresses. -/
inductive Restart where
  | t00
  | t08
  | t10
  | t18
  | t20
  | t28
  | t30
  | t38
  deriving DecidableEq, Repr

/-- One constructor per row of the opcode table: first the rows that carry immediate bytes, then the others,
each group in the table's order (Lean's compiler wants a constructor with arguments among the first ones).
Each docstring gives the row's spelling, its opcode bytes in hexadecimal, and its rule. -/
inductive Instr where
  /-- `LD BC,d16`, 01, R405 -/
  | ldBCImm16 (d16 : Word)
  /-- `LD B,d8`, 06, R403 -/
  | ldBImm8 (d8 : Byte)
  /-- `LD (a16),SP`, 08, R420 -/
  | ldIndA16SP (a16 : Word)
  /-- `LD C,d8`, 0E, R403 -/
  | ldCImm8 (d8 : Byte)
  /-- `STOP`, 10, R501 -/
  | stop (n : Byte)
  /-- `LD DE,d16`, 11, R405 -/
  | ldDEImm16 (d16 : Word)
  /-- `LD D,d8`, 16, R403 -/
  | ldDImm8 (d8 : Byte)
  /-- `JR e8`, 18, R452 -/
  | jr (e8 : Byte)
  /-- `LD E,d8`, 1E, R403 -/
  | ldEImm8 (d8 : Byte)
  /-- `JR NZ,e8`, 20, R453 -/
  | jrNZ (e8 : Byte)
  /-- `LD HL,d16`, 21, R405 -/
  | ldHLImm16 (d16 : Word)
  /-- `LD H,d8`, 26, R403 -/
  | ldHImm8 (d8 : Byte)
  /-- `JR Z,e8`, 28, R453 -/
  | jrZ (e8 : Byte)
  /-- `LD L,d8`, 2E, R403 -/
  | ldLImm8 (d8 : Byte)
  /-- `JR NC,e8`, 30, R453 -/
  | jrNC (e8 : Byte)
  /-- `LD SP,d16`, 31, R405 -/
  | ldSPImm16 (d16 : Word)
  /-- `LD (HL),d8`, 36, R404 -/
  | ldIndHLImm8 (d8 : Byte)
  /-- `JR C,e8`, 38, R453 -/
  | jrC (e8 : Byte)
  /-- `LD A,d8`, 3E, R403 -/
  | ldAImm8 (d8 : Byte)
  /-- `JP NZ,a16`, C2, R455 -/
  | jpNZ (a16 : Word)
  /-- `JP a16`, C3, R454 -/
  | jp (a16 : Word)
  /-- `CALL NZ,a16`, C4, R458 -/
  | callNZ (a16 : Word)
  /-- `ADD A,d8`, C6, R204 -/
  | addAImm8 (d8 : Byte)
  /-- `JP Z,a16`, CA, R455 -/
  | jpZ (a16 : Word)
  /-- `CALL Z,a16`, CC, R458 -/
  | callZ (a16 : Word)
  /-- `CALL a16`, CD, R457 -/
  | call (a16 : Word)
  /-- `ADC A,d8`, CE, R207 -/
  | adcAImm8 (d8 : Byte)
  /-- `JP NC,a16`, D2, R455 -/
  | jpNC (a16 : Word)
  /-- `CALL NC,a16`, D4, R458 -/
  | callNC (a16 : Word)
  /-- `SUB d8`, D6, R210 -/
  | subImm8 (d8 : Byte)
  /-- `JP C,a16`, DA, R455 -/
  | jpC (a16 : Word)
  /-- `CALL C,a16`, DC, R458 -/
  | callC (a16 : Word)
  /-- `SBC A,d8`, DE, R213 -/
  | sbcAImm8 (d8 : Byte)
  /-- `LDH (a8),A`, E0, R414 -/
  | ldhIndA8A (a8 : Byte)
  /-- `AND d8`, E6, R216 -/
  | andImm8 (d8 : Byte)
  /-- `ADD SP,e8`, E8, R423 -/
  | addSPe8 (e8 : Byte)
  /-- `LD (a16),A`, EA, R418 -/
  | ldIndA16A (a16 : Word)
  /-- `XOR d8`, EE, R219 -/
  | xorImm8 (d8 : Byte)
  /-- `LDH A,(a8)`, F0, R415 -/
  | ldhAIndA8 (a8 : Byte)
  /-- `OR d8`, F6, R222 -/
  | orImm8 (d8 : Byte)
  /-- `LD HL,SP+e8`, F8, R424 -/
  | ldHLSPe8 (e8 : Byte)
  /-- `LD A,(a16)`, FA, R419 -/
  | ldAIndA16 (a16 : Word)
  /-- `CP d8`, FE, R225 -/
  | cpImm8 (d8 : Byte)
  /-- `NOP`, 00, R500 -/
  | nop
  /-- `LD (BC),A`, 02, R406 -/
  | ldIndBCA
  /-- `INC BC`, 03, R251 -/
  | incBC
  /-- `INC B`, 04, R226 -/
  | incB
  /-- `DEC B`, 05, R228 -/
  | decB
  /-- `RLCA`, 07, R300 -/
  | rlca
  /-- `ADD HL,BC`, 09, R250 -/
  | addHLBC
  /-- `LD A,(BC)`, 0A, R410 -/
  | ldAIndBC
  /-- `DEC BC`, 0B, R252 -/
  | decBC
  /-- `INC C`, 0C, R226 -/
  | incC
  /-- `DEC C`, 0D, R228 -/
  | decC
  /-- `RRCA`, 0F, R301 -/
  | rrca
  /-- `LD (DE),A`, 12, R407 -/
  | ldIndDEA
  /-- `INC DE`, 13, R251 -/
  | incDE
  /-- `INC D`, 14, R226 -/
  | incD
  /-- `DEC D`, 15, R228 -/
  | decD
  /-- `RLA`, 17, R302 -/
  | rla
  /-- `ADD HL,DE`, 19, R250 -/
  | addHLDE
  /-- `LD A,(DE)`, 1A, R411 -/
  | ldAIndDE
  /-- `DEC DE`, 1B, R252 -/
  | decDE
  /-- `INC E`, 1C, R226 -/
  | incE
  /-- `DEC E`, 1D, R228 -/
  | decE
  /-- `RRA`, 1F, R303 -/
  | rra
  /-- `LD (HL+),A`, 22, R408 -/
  | ldIndHLIncA
  /-- `INC HL`, 23, R251 -/
  | incHL
  /-- `INC H`, 24, R226 -/
  | incH
  /-- `DEC H`, 25, R228 -/
  | decH
  /-- `DAA`, 27, R230 -/
  | daa
  /-- `ADD HL,HL`, 29, R250 -/
  | addHLHL
  /-- `LD A,(HL+)`, 2A, R412 -/
  | ldAIndHLInc
  /-- `DEC HL`, 2B, R252 -/
  | decHL
  /-- `INC L`, 2C, R226 -/
  | incL
  /-- `DEC L`, 2D, R228 -/
  | decL
  /-- `CPL`, 2F, R505 -/
  | cpl
  /-- `LD (HL-),A`, 32, R409 -/
  | ldIndHLDecA
  /-- `INC SP`, 33, R251 -/
  | incSP
  /-- `INC (HL)`, 34, R227 -/
  | incIndHL
  /-- `DEC (HL)`, 35, R229 -/
  | decIndHL
  /-- `SCF`, 37, R506 -/
  | scf
  /-- `ADD HL,SP`, 39, R250 -/
  | addHLSP
  /-- `LD A,(HL-)`, 3A, R413 -/
  | ldAIndHLDec
  /-- `DEC SP`, 3B, R252 -/
  | decSP
  /-- `INC A`, 3C, R226 -/
  | incA
  /-- `DEC A`, 3D, R228 -/
  | decA
  /-- `CCF`, 3F, R507 -/
  | ccf
  /-- `LD B,B`, 40, R400 -/
  | ldBB
  /-- `LD B,C`, 41, R400 -/
  | ldBC
  /-- `LD B,D`, 42, R400 -/
  | ldBD
  /-- `LD B,E`, 43, R400 -/
  | ldBE
  /-- `LD B,H`, 44, R400 -/
  | ldBH
  /-- `LD B,L`, 45, R400 -/
  | ldBL
  /-- `LD B,(HL)`, 46, R401 -/
  | ldBIndHL
  /-- `LD B,A`, 47, R400 -/
  | ldBA
  /-- `LD C,B`, 48, R400 -/
  | ldCB
  /-- `LD C,C`, 49, R400 -/
  | ldCC
  /-- `LD C,D`, 4A, R400 -/
  | ldCD
  /-- `LD C,E`, 4B, R400 -/
  | ldCE
  /-- `LD C,H`, 4C, R400 -/
  | ldCH
  /-- `LD C,L`, 4D, R400 -/
  | ldCL
  /-- `LD C,(HL)`, 4E, R401 -/
  | ldCIndHL
  /-- `LD C,A`, 4F, R400 -/
  | ldCA
  /-- `LD D,B`, 50, R400 -/
  | ldDB
  /-- `LD D,C`, 51, R400 -/
  | ldDC
  /-- `LD D,D`, 52, R400 -/
  | ldDD
  /-- `LD D,E`, 53, R400 -/
  | ldDE
  /-- `LD D,H`, 54, R400 -/
  | ldDH
  /-- `LD D,L`, 55, R400 -/
  | ldDL
  /-- `LD D,(HL)`, 56, R401 -/
  | ldDIndHL
  /-- `LD D,A`, 57, R400 -/
  | ldDA
  /-- `LD E,B`, 58, R400 -/
  | ldEB
  /-- `LD E,C`, 59, R400 -/
  | ldEC
  /-- `LD E,D`, 5A, R400 -/
  | ldED
  /-- `LD E,E`, 5B, R400 -/
  | ldEE
  /-- `LD E,H`, 5C, R400 -/
  | ldEH
  /-- `LD E,L`, 5D, R400 -/
  | ldEL
  /-- `LD E,(HL)`, 5E, R401 -/
  | ldEIndHL
  /-- `LD E,A`, 5F, R400 -/
  | ldEA
  /-- `LD H,B`, 60, R400 -/
  | ldHB
  /-- `LD H,C`, 61, R400 -/
  | ldHC
  /-- `LD H,D`, 62, R400 -/
  | ldHD
  /-- `LD H,E`, 63, R400 -/
  | ldHE
  /-- `LD H,H`, 64, R400 -/
  | ldHH
  /-- `LD H,L`, 65, R400 -/
  | ldHL
  /-- `LD H,(HL)`, 66, R401 -/
  | ldHIndHL
  /-- `LD H,A`, 67, R400 -/
  | ldHA
  /-- `LD L,B`, 68, R400 -/
  | ldLB
  /-- `LD L,C`, 69, R400 -/
  | ldLC
  /-- `LD L,D`, 6A, R400 -/
  | ldLD
  /-- `LD L,E`, 6B, R400 -/
  | ldLE
  /-- `LD L,H`, 6C, R400 -/
  | ldLH
  /-- `LD L,L`, 6D, R400 -/
  | ldLL
  /-- `LD L,(HL)`, 6E, R401 -/
  | ldLIndHL
  /-- `LD L,A`, 6F, R400 -/
  | ldLA
  /-- `LD (HL),B`, 70, R402 -/
  | ldIndHLB
  /-- `LD (HL),C`, 71, R402 -/
  | ldIndHLC
  /-- `LD (HL),D`, 72, R402 -/
  | ldIndHLD
  /-- `LD (HL),E`, 73, R402 -/
  | ldIndHLE
  /-- `LD (HL),H`, 74, R402 -/
  | ldIndHLH
  /-- `LD (HL),L`, 75, R402 -/
  | ldIndHLL
  /-- `HALT`, 76, R502 -/
  | halt
  /-- `LD (HL),A`, 77, R402 -/
  | ldIndHLA
  /-- `LD A,B`, 78, R400 -/
  | ldAB
  /-- `LD A,C`, 79, R400 -/
  | ldAC
  /-- `LD A,D`, 7A, R400 -/
  | ldAD
  /-- `LD A,E`, 7B, R400 -/
  | ldAE
  /-- `LD A,H`, 7C, R400 -/
  | ldAH
  /-- `LD A,L`, 7D, R400 -/
  | ldAL
  /-- `LD A,(HL)`, 7E, R401 -/
  | ldAIndHL
  /-- `LD A,A`, 7F, R400 -/
  | ldAA
  /-- `ADD A,B`, 80, R202 -/
  | addAB
  /-- `ADD A,C`, 81, R202 -/
  | addAC
  /-- `ADD A,D`, 82, R202 -/
  | addAD
  /-- `ADD A,E`, 83, R202 -/
  | addAE
  /-- `ADD A,H`, 84, R202 -/
  | addAH
  /-- `ADD A,L`, 85, R202 -/
  | addAL
  /-- `ADD A,(HL)`, 86, R203 -/
  | addAIndHL
  /-- `ADD A,A`, 87, R202 -/
  | addAA
  /-- `ADC A,B`, 88, R205 -/
  | adcAB
  /-- `ADC A,C`, 89, R205 -/
  | adcAC
  /-- `ADC A,D`, 8A, R205 -/
  | adcAD
  /-- `ADC A,E`, 8B, R205 -/
  | adcAE
  /-- `ADC A,H`, 8C, R205 -/
  | adcAH
  /-- `ADC A,L`, 8D, R205 -/
  | adcAL
  /-- `ADC A,(HL)`, 8E, R206 -/
  | adcAIndHL
  /-- `ADC A,A`, 8F, R205 -/
  | adcAA
  /-- `SUB B`, 90, R208 -/
  | subB
  /-- `SUB C`, 91, R208 -/
  | subC
  /-- `SUB D`, 92, R208 -/
  | subD
  /-- `SUB E`, 93, R208 -/
  | subE
  /-- `SUB H`, 94, R208 -/
  | subH
  /-- `SUB L`, 95, R208 -/
  | subL
  /-- `SUB (HL)`, 96, R209 -/
  | subIndHL
  /-- `SUB A`, 97, R208 -/
  | subA
  /-- `SBC A,B`, 98, R211 -/
  | sbcAB
  /-- `SBC A,C`, 99, R211 -/
  | sbcAC
  /-- `SBC A,D`, 9A, R211 -/
  | sbcAD
  /-- `SBC A,E`, 9B, R211 -/
  | sbcAE
  /-- `SBC A,H`, 9C, R211 -/
  | sbcAH
  /-- `SBC A,L`, 9D, R211 -/
  | sbcAL
  /-- `SBC A,(HL)`, 9E, R212 -/
  | sbcAIndHL
  /-- `SBC A,A`, 9F, R211 -/
  | sbcAA
  /-- `AND B`, A0, R214 -/
  | andB
  /-- `AND C`, A1, R214 -/
  | andC
  /-- `AND D`, A2, R214 -/
  | andD
  /-- `AND E`, A3, R214 -/
  | andE
  /-- `AND H`, A4, R214 -/
  | andH
  /-- `AND L`, A5, R214 -/
  | andL
  /-- `AND (HL)`, A6, R215 -/
  | andIndHL
  /-- `AND A`, A7, R214 -/
  | andA
  /-- `XOR B`, A8, R217 -/
  | xorB
  /-- `XOR C`, A9, R217 -/
  | xorC
  /-- `XOR D`, AA, R217 -/
  | xorD
  /-- `XOR E`, AB, R217 -/
  | xorE
  /-- `XOR H`, AC, R217 -/
  | xorH
  /-- `XOR L`, AD, R217 -/
  | xorL
  /-- `XOR (HL)`, AE, R218 -/
  | xorIndHL
  /-- `XOR A`, AF, R217 -/
  | xorA
  /-- `OR B`, B0, R220 -/
  | orB
  /-- `OR C`, B1, R220 -/
  | orC
  /-- `OR D`, B2, R220 -/
  | orD
  /-- `OR E`, B3, R220 -/
  | orE
  /-- `OR H`, B4, R220 -/
  | orH
  /-- `OR L`, B5, R220 -/
  | orL
  /-- `OR (HL)`, B6, R221 -/
  | orIndHL
  /-- `OR A`, B7, R220 -/
  | orA
  /-- `CP B`, B8, R223 -/
  | cpB
  /-- `CP C`, B9, R223 -/
  | cpC
  /-- `CP D`, BA, R223 -/
  | cpD
  /-- `CP E`, BB, R223 -/
  | cpE
  /-- `CP H`, BC, R223 -/
  | cpH
  /-- `CP L`, BD, R223 -/
  | cpL
  /-- `CP (HL)`, BE, R224 -/
  | cpIndHL
  /-- `CP A`, BF, R223 -/
  | cpA
  /-- `RET NZ`, C0, R460 -/
  | retNZ
  /-- `POP BC`, C1, R464 -/
  | popBC
  /-- `PUSH BC`, C5, R463 -/
  | pushBC
  /-- `RST 0x00`, C7, R462 -/
  | rst00
  /-- `RET Z`, C8, R460 -/
  | retZ
  /-- `RET`, C9, R459 -/
  | ret
  /-- `PREFIX CB`, CB, R508 -/
  | prefixCB
  /-- `RST 0x08`, CF, R462 -/
  | rst08
  /-- `RET NC`, D0, R460 -/
  | retNC
  /-- `POP DE`, D1, R464 -/
  | popDE
  /-- `ILLEGAL`, D3, R509 -/
  | illegalD3
  /-- `PUSH DE`, D5, R463 -/
  | pushDE
  /-- `RST 0x10`, D7, R462 -/
  | rst10
  /-- `RET C`, D8, R460 -/
  | retC
  /-- `RETI`, D9, R461 -/
  | reti
  /-- `ILLEGAL`, DB, R509 -/
  | illegalDB
  /-- `ILLEGAL`, DD, R509 -/
  | illegalDD
  /-- `RST 0x18`, DF, R462 -/
  | rst18
  /-- `POP HL`, E1, R464 -/
  | popHL
  /-- `LD (C),A`, E2, R416 -/
  | ldIndCA
  /-- `ILLEGAL`, E3, R509 -/
  | illegalE3
  /-- `ILLEGAL`, E4, R509 -/
  | illegalE4
  /-- `PUSH HL`, E5, R463 -/
  | pushHL
  /-- `RST 0x20`, E7, R462 -/
  | rst20
  /-- `JP HL`, E9, R456 -/
  | jpHL
  /-- `ILLEGAL`, EB, R509 -/
  | illegalEB
  /-- `ILLEGAL`, EC, R509 -/
  | illegalEC
  /-- `ILLEGAL`, ED, R509 -/
  | illegalED
  /-- `RST 0x28`, EF, R462 -/
  | rst28
  /-- `POP AF`, F1, R465 -/
  | popAF
  /-- `LD A,(C)`, F2, R417 -/
  | ldAIndC
  /-- `DI`, F3, R503 -/
  | di
  /-- `ILLEGAL`, F4, R509 -/
  | illegalF4
  /-- `PUSH AF`, F5, R463 -/
  | pushAF
  /-- `RST 0x30`, F7, R462 -/
  | rst30
  /-- `LD SP,HL`, F9, R421 -/
  | ldSPHL
  /-- `EI`, FB, R504 -/
  | ei
  /-- `ILLEGAL`, FC, R509 -/
  | illegalFC
  /-- `ILLEGAL`, FD, R509 -/
  | illegalFD
  /-- `RST 0x38`, FF, R462 -/
  | rst38
  /-- `RLC B`, CB 00, R305 -/
  | rlcB
  /-- `RLC C`, CB 01, R305 -/
  | rlcC
  /-- `RLC D`, CB 02, R305 -/
  | rlcD
  /-- `RLC E`, CB 03, R305 -/
  | rlcE
  /-- `RLC H`, CB 04, R305 -/
  | rlcH
  /-- `RLC L`, CB 05, R305 -/
  | rlcL
  /-- `RLC (HL)`, CB 06, R306 -/
  | rlcIndHL
  /-- `RLC A`, CB 07, R305 -/
  | rlcA
  /-- `RRC B`, CB 08, R307 -/
  | rrcB
  /-- `RRC C`, CB 09, R307 -/
  | rrcC
  /-- `RRC D`, CB 0A, R307 -/
  | rrcD
  /-- `RRC E`, CB 0B, R307 -/
  | rrcE
  /-- `RRC H`, CB 0C, R307 -/
  | rrcH
  /-- `RRC L`, CB 0D, R307 -/
  | rrcL
  /-- `RRC (HL)`, CB 0E, R308 -/
  | rrcIndHL
  /-- `RRC A`, CB 0F, R307 -/
  | rrcA
  /-- `RL B`, CB 10, R309 -/
  | rlB
  /-- `RL C`, CB 11, R309 -/
  | rlC
  /-- `RL D`, CB 12, R309 -/
  | rlD
  /-- `RL E`, CB 13, R309 -/
  | rlE
  /-- `RL H`, CB 14, R309 -/
  | rlH
  /-- `RL L`, CB 15, R309 -/
  | rlL
  /-- `RL (HL)`, CB 16, R310 -/
  | rlIndHL
  /-- `RL A`, CB 17, R309 -/
  | rlA
  /-- `RR B`, CB 18, R311 -/
  | rrB
  /-- `RR C`, CB 19, R311 -/
  | rrC
  /-- `RR D`, CB 1A, R311 -/
  | rrD
  /-- `RR E`, CB 1B, R311 -/
  | rrE
  /-- `RR H`, CB 1C, R311 -/
  | rrH
  /-- `RR L`, CB 1D, R311 -/
  | rrL
  /-- `RR (HL)`, CB 1E, R312 -/
  | rrIndHL
  /-- `RR A`, CB 1F, R311 -/
  | rrA
  /-- `SLA B`, CB 20, R313 -/
  | slaB
  /-- `SLA C`, CB 21, R313 -/
  | slaC
  /-- `SLA D`, CB 22, R313 -/
  | slaD
  /-- `SLA E`, CB 23, R313 -/
  | slaE
  /-- `SLA H`, CB 24, R313 -/
  | slaH
  /-- `SLA L`, CB 25, R313 -/
  | slaL
  /-- `SLA (HL)`, CB 26, R314 -/
  | slaIndHL
  /-- `SLA A`, CB 27, R313 -/
  | slaA
  /-- `SRA B`, CB 28, R315 -/
  | sraB
  /-- `SRA C`, CB 29, R315 -/
  | sraC
  /-- `SRA D`, CB 2A, R315 -/
  | sraD
  /-- `SRA E`, CB 2B, R315 -/
  | sraE
  /-- `SRA H`, CB 2C, R315 -/
  | sraH
  /-- `SRA L`, CB 2D, R315 -/
  | sraL
  /-- `SRA (HL)`, CB 2E, R316 -/
  | sraIndHL
  /-- `SRA A`, CB 2F, R315 -/
  | sraA
  /-- `SWAP B`, CB 30, R317 -/
  | swapB
  /-- `SWAP C`, CB 31, R317 -/
  | swapC
  /-- `SWAP D`, CB 32, R317 -/
  | swapD
  /-- `SWAP E`, CB 33, R317 -/
  | swapE
  /-- `SWAP H`, CB 34, R317 -/
  | swapH
  /-- `SWAP L`, CB 35, R317 -/
  | swapL
  /-- `SWAP (HL)`, CB 36, R318 -/
  | swapIndHL
  /-- `SWAP A`, CB 37, R317 -/
  | swapA
  /-- `SRL B`, CB 38, R319 -/
  | srlB
  /-- `SRL C`, CB 39, R319 -/
  | srlC
  /-- `SRL D`, CB 3A, R319 -/
  | srlD
  /-- `SRL E`, CB 3B, R319 -/
  | srlE
  /-- `SRL H`, CB 3C, R319 -/
  | srlH
  /-- `SRL L`, CB 3D, R319 -/
  | srlL
  /-- `SRL (HL)`, CB 3E, R320 -/
  | srlIndHL
  /-- `SRL A`, CB 3F, R319 -/
  | srlA
  /-- `BIT 0,B`, CB 40, R350 -/
  | bit0B
  /-- `BIT 0,C`, CB 41, R350 -/
  | bit0C
  /-- `BIT 0,D`, CB 42, R350 -/
  | bit0D
  /-- `BIT 0,E`, CB 43, R350 -/
  | bit0E
  /-- `BIT 0,H`, CB 44, R350 -/
  | bit0H
  /-- `BIT 0,L`, CB 45, R350 -/
  | bit0L
  /-- `BIT 0,(HL)`, CB 46, R351 -/
  | bit0IndHL
  /-- `BIT 0,A`, CB 47, R350 -/
  | bit0A
  /-- `BIT 1,B`, CB 48, R350 -/
  | bit1B
  /-- `BIT 1,C`, CB 49, R350 -/
  | bit1C
  /-- `BIT 1,D`, CB 4A, R350 -/
  | bit1D
  /-- `BIT 1,E`, CB 4B, R350 -/
  | bit1E
  /-- `BIT 1,H`, CB 4C, R350 -/
  | bit1H
  /-- `BIT 1,L`, CB 4D, R350 -/
  | bit1L
  /-- `BIT 1,(HL)`, CB 4E, R351 -/
  | bit1IndHL
  /-- `BIT 1,A`, CB 4F, R350 -/
  | bit1A
  /-- `BIT 2,B`, CB 50, R350 -/
  | bit2B
  /-- `BIT 2,C`, CB 51, R350 -/
  | bit2C
  /-- `BIT 2,D`, CB 52, R350 -/
  | bit2D
  /-- `BIT 2,E`, CB 53, R350 -/
  | bit2E
  /-- `BIT 2,H`, CB 54, R350 -/
  | bit2H
  /-- `BIT 2,L`, CB 55, R350 -/
  | bit2L
  /-- `BIT 2,(HL)`, CB 56, R351 -/
  | bit2IndHL
  /-- `BIT 2,A`, CB 57, R350 -/
  | bit2A
  /-- `BIT 3,B`, CB 58, R350 -/
  | bit3B
  /-- `BIT 3,C`, CB 59, R350 -/
  | bit3C
  /-- `BIT 3,D`, CB 5A, R350 -/
  | bit3D
  /-- `BIT 3,E`, CB 5B, R350 -/
  | bit3E
  /-- `BIT 3,H`, CB 5C, R350 -/
  | bit3H
  /-- `BIT 3,L`, CB 5D, R350 -/
  | bit3L
  /-- `BIT 3,(HL)`, CB 5E, R351 -/
  | bit3IndHL
  /-- `BIT 3,A`, CB 5F, R350 -/
  | bit3A
  /-- `BIT 4,B`, CB 60, R350 -/
  | bit4B
  /-- `BIT 4,C`, CB 61, R350 -/
  | bit4C
  /-- `BIT 4,D`, CB 62, R350 -/
  | bit4D
  /-- `BIT 4,E`, CB 63, R350 -/
  | bit4E
  /-- `BIT 4,H`, CB 64, R350 -/
  | bit4H
  /-- `BIT 4,L`, CB 65, R350 -/
  | bit4L
  /-- `BIT 4,(HL)`, CB 66, R351 -/
  | bit4IndHL
  /-- `BIT 4,A`, CB 67, R350 -/
  | bit4A
  /-- `BIT 5,B`, CB 68, R350 -/
  | bit5B
  /-- `BIT 5,C`, CB 69, R350 -/
  | bit5C
  /-- `BIT 5,D`, CB 6A, R350 -/
  | bit5D
  /-- `BIT 5,E`, CB 6B, R350 -/
  | bit5E
  /-- `BIT 5,H`, CB 6C, R350 -/
  | bit5H
  /-- `BIT 5,L`, CB 6D, R350 -/
  | bit5L
  /-- `BIT 5,(HL)`, CB 6E, R351 -/
  | bit5IndHL
  /-- `BIT 5,A`, CB 6F, R350 -/
  | bit5A
  /-- `BIT 6,B`, CB 70, R350 -/
  | bit6B
  /-- `BIT 6,C`, CB 71, R350 -/
  | bit6C
  /-- `BIT 6,D`, CB 72, R350 -/
  | bit6D
  /-- `BIT 6,E`, CB 73, R350 -/
  | bit6E
  /-- `BIT 6,H`, CB 74, R350 -/
  | bit6H
  /-- `BIT 6,L`, CB 75, R350 -/
  | bit6L
  /-- `BIT 6,(HL)`, CB 76, R351 -/
  | bit6IndHL
  /-- `BIT 6,A`, CB 77, R350 -/
  | bit6A
  /-- `BIT 7,B`, CB 78, R350 -/
  | bit7B
  /-- `BIT 7,C`, CB 79, R350 -/
  | bit7C
  /-- `BIT 7,D`, CB 7A, R350 -/
  | bit7D
  /-- `BIT 7,E`, CB 7B, R350 -/
  | bit7E
  /-- `BIT 7,H`, CB 7C, R350 -/
  | bit7H
  /-- `BIT 7,L`, CB 7D, R350 -/
  | bit7L
  /-- `BIT 7,(HL)`, CB 7E, R351 -/
  | bit7IndHL
  /-- `BIT 7,A`, CB 7F, R350 -/
  | bit7A
  /-- `RES 0,B`, CB 80, R352 -/
  | res0B
  /-- `RES 0,C`, CB 81, R352 -/
  | res0C
  /-- `RES 0,D`, CB 82, R352 -/
  | res0D
  /-- `RES 0,E`, CB 83, R352 -/
  | res0E
  /-- `RES 0,H`, CB 84, R352 -/
  | res0H
  /-- `RES 0,L`, CB 85, R352 -/
  | res0L
  /-- `RES 0,(HL)`, CB 86, R353 -/
  | res0IndHL
  /-- `RES 0,A`, CB 87, R352 -/
  | res0A
  /-- `RES 1,B`, CB 88, R352 -/
  | res1B
  /-- `RES 1,C`, CB 89, R352 -/
  | res1C
  /-- `RES 1,D`, CB 8A, R352 -/
  | res1D
  /-- `RES 1,E`, CB 8B, R352 -/
  | res1E
  /-- `RES 1,H`, CB 8C, R352 -/
  | res1H
  /-- `RES 1,L`, CB 8D, R352 -/
  | res1L
  /-- `RES 1,(HL)`, CB 8E, R353 -/
  | res1IndHL
  /-- `RES 1,A`, CB 8F, R352 -/
  | res1A
  /-- `RES 2,B`, CB 90, R352 -/
  | res2B
  /-- `RES 2,C`, CB 91, R352 -/
  | res2C
  /-- `RES 2,D`, CB 92, R352 -/
  | res2D
  /-- `RES 2,E`, CB 93, R352 -/
  | res2E
  /-- `RES 2,H`, CB 94, R352 -/
  | res2H
  /-- `RES 2,L`, CB 95, R352 -/
  | res2L
  /-- `RES 2,(HL)`, CB 96, R353 -/
  | res2IndHL
  /-- `RES 2,A`, CB 97, R352 -/
  | res2A
  /-- `RES 3,B`, CB 98, R352 -/
  | res3B
  /-- `RES 3,C`, CB 99, R352 -/
  | res3C
  /-- `RES 3,D`, CB 9A, R352 -/
  | res3D
  /-- `RES 3,E`, CB 9B, R352 -/
  | res3E
  /-- `RES 3,H`, CB 9C, R352 -/
  | res3H
  /-- `RES 3,L`, CB 9D, R352 -/
  | res3L
  /-- `RES 3,(HL)`, CB 9E, R353 -/
  | res3IndHL
  /-- `RES 3,A`, CB 9F, R352 -/
  | res3A
  /-- `RES 4,B`, CB A0, R352 -/
  | res4B
  /-- `RES 4,C`, CB A1, R352 -/
  | res4C
  /-- `RES 4,D`, CB A2, R352 -/
  | res4D
  /-- `RES 4,E`, CB A3, R352 -/
  | res4E
  /-- `RES 4,H`, CB A4, R352 -/
  | res4H
  /-- `RES 4,L`, CB A5, R352 -/
  | res4L
  /-- `RES 4,(HL)`, CB A6, R353 -/
  | res4IndHL
  /-- `RES 4,A`, CB A7, R352 -/
  | res4A
  /-- `RES 5,B`, CB A8, R352 -/
  | res5B
  /-- `RES 5,C`, CB A9, R352 -/
  | res5C
  /-- `RES 5,D`, CB AA, R352 -/
  | res5D
  /-- `RES 5,E`, CB AB, R352 -/
  | res5E
  /-- `RES 5,H`, CB AC, R352 -/
  | res5H
  /-- `RES 5,L`, CB AD, R352 -/
  | res5L
  /-- `RES 5,(HL)`, CB AE, R353 -/
  | res5IndHL
  /-- `RES 5,A`, CB AF, R352 -/
  | res5A
  /-- `RES 6,B`, CB B0, R352 -/
  | res6B
  /-- `RES 6,C`, CB B1, R352 -/
  | res6C
  /-- `RES 6,D`, CB B2, R352 -/
  | res6D
  /-- `RES 6,E`, CB B3, R352 -/
  | res6E
  /-- `RES 6,H`, CB B4, R352 -/
  | res6H
  /-- `RES 6,L`, CB B5, R352 -/
  | res6L
  /-- `RES 6,(HL)`, CB B6, R353 -/
  | res6IndHL
  /-- `RES 6,A`, CB B7, R352 -/
  | res6A
  /-- `RES 7,B`, CB B8, R352 -/
  | res7B
  /-- `RES 7,C`, CB B9, R352 -/
  | res7C
  /-- `RES 7,D`, CB BA, R352 -/
  | res7D
  /-- `RES 7,E`, CB BB, R352 -/
  | res7E
  /-- `RES 7,H`, CB BC, R352 -/
  | res7H
  /-- `RES 7,L`, CB BD, R352 -/
  | res7L
  /-- `RES 7,(HL)`, CB BE, R353 -/
  | res7IndHL
  /-- `RES 7,A`, CB BF, R352 -/
  | res7A
  /-- `SET 0,B`, CB C0, R354 -/
  | set0B
  /-- `SET 0,C`, CB C1, R354 -/
  | set0C
  /-- `SET 0,D`, CB C2, R354 -/
  | set0D
  /-- `SET 0,E`, CB C3, R354 -/
  | set0E
  /-- `SET 0,H`, CB C4, R354 -/
  | set0H
  /-- `SET 0,L`, CB C5, R354 -/
  | set0L
  /-- `SET 0,(HL)`, CB C6, R355 -/
  | set0IndHL
  /-- `SET 0,A`, CB C7, R354 -/
  | set0A
  /-- `SET 1,B`, CB C8, R354 -/
  | set1B
  /-- `SET 1,C`, CB C9, R354 -/
  | set1C
  /-- `SET 1,D`, CB CA, R354 -/
  | set1D
  /-- `SET 1,E`, CB CB, R354 -/
  | set1E
  /-- `SET 1,H`, CB CC, R354 -/
  | set1H
  /-- `SET 1,L`, CB CD, R354 -/
  | set1L
  /-- `SET 1,(HL)`, CB CE, R355 -/
  | set1IndHL
  /-- `SET 1,A`, CB CF, R354 -/
  | set1A
  /-- `SET 2,B`, CB D0, R354 -/
  | set2B
  /-- `SET 2,C`, CB D1, R354 -/
  | set2C
  /-- `SET 2,D`, CB D2, R354 -/
  | set2D
  /-- `SET 2,E`, CB D3, R354 -/
  | set2E
  /-- `SET 2,H`, CB D4, R354 -/
  | set2H
  /-- `SET 2,L`, CB D5, R354 -/
  | set2L
  /-- `SET 2,(HL)`, CB D6, R355 -/
  | set2IndHL
  /-- `SET 2,A`, CB D7, R354 -/
  | set2A
  /-- `SET 3,B`, CB D8, R354 -/
  | set3B
  /-- `SET 3,C`, CB D9, R354 -/
  | set3C
  /-- `SET 3,D`, CB DA, R354 -/
  | set3D
  /-- `SET 3,E`, CB DB, R354 -/
  | set3E
  /-- `SET 3,H`, CB DC, R354 -/
  | set3H
  /-- `SET 3,L`, CB DD, R354 -/
  | set3L
  /-- `SET 3,(HL)`, CB DE, R355 -/
  | set3IndHL
  /-- `SET 3,A`, CB DF, R354 -/
  | set3A
  /-- `SET 4,B`, CB E0, R354 -/
  | set4B
  /-- `SET 4,C`, CB E1, R354 -/
  | set4C
  /-- `SET 4,D`, CB E2, R354 -/
  | set4D
  /-- `SET 4,E`, CB E3, R354 -/
  | set4E
  /-- `SET 4,H`, CB E4, R354 -/
  | set4H
  /-- `SET 4,L`, CB E5, R354 -/
  | set4L
  /-- `SET 4,(HL)`, CB E6, R355 -/
  | set4IndHL
  /-- `SET 4,A`, CB E7, R354 -/
  | set4A
  /-- `SET 5,B`, CB E8, R354 -/
  | set5B
  /-- `SET 5,C`, CB E9, R354 -/
  | set5C
  /-- `SET 5,D`, CB EA, R354 -/
  | set5D
  /-- `SET 5,E`, CB EB, R354 -/
  | set5E
  /-- `SET 5,H`, CB EC, R354 -/
  | set5H
  /-- `SET 5,L`, CB ED, R354 -/
  | set5L
  /-- `SET 5,(HL)`, CB EE, R355 -/
  | set5IndHL
  /-- `SET 5,A`, CB EF, R354 -/
  | set5A
  /-- `SET 6,B`, CB F0, R354 -/
  | set6B
  /-- `SET 6,C`, CB F1, R354 -/
  | set6C
  /-- `SET 6,D`, CB F2, R354 -/
  | set6D
  /-- `SET 6,E`, CB F3, R354 -/
  | set6E
  /-- `SET 6,H`, CB F4, R354 -/
  | set6H
  /-- `SET 6,L`, CB F5, R354 -/
  | set6L
  /-- `SET 6,(HL)`, CB F6, R355 -/
  | set6IndHL
  /-- `SET 6,A`, CB F7, R354 -/
  | set6A
  /-- `SET 7,B`, CB F8, R354 -/
  | set7B
  /-- `SET 7,C`, CB F9, R354 -/
  | set7C
  /-- `SET 7,D`, CB FA, R354 -/
  | set7D
  /-- `SET 7,E`, CB FB, R354 -/
  | set7E
  /-- `SET 7,H`, CB FC, R354 -/
  | set7H
  /-- `SET 7,L`, CB FD, R354 -/
  | set7L
  /-- `SET 7,(HL)`, CB FE, R355 -/
  | set7IndHL
  /-- `SET 7,A`, CB FF, R354 -/
  | set7A
  deriving DecidableEq, Repr

end Sys2Proof
end

