-- ==== Sys2Proof/Decode.lean ====
section
/-! DEFINITION. Decoding and encoding (30_encoding.md). The decoder pulls the fields x, y, z, p, q out of
the opcode byte (R101) and looks the row up by its selectors (R118 to R122); the encoder writes each
row's bytes as the opcode map gives them (R133, R134). -/

namespace Sys2Proof

/-! ## Bytes and words -/

/-- `hi:lo` (R8). -/
def joinBytes (hi lo : Byte) : Word := hi ++ lo

/-- `v[15:8]`. -/
def highByte (v : Word) : Byte := v.extractLsb' 8 8

/-- `v[7:0]`. -/
def lowByte (v : Word) : Byte := v.extractLsb' 0 8

/-! ## The fields of an opcode byte (R101) -/

/-- x = op[7:6]. -/
def fieldX (op : Byte) : Nat := (op.extractLsb' 6 2).toNat

/-- y = op[5:3]. -/
def fieldY (op : Byte) : Nat := (op.extractLsb' 3 3).toNat

/-- z = op[2:0]. -/
def fieldZ (op : Byte) : Nat := (op.extractLsb' 0 3).toNat

/-- p = op[5:4]. -/
def fieldP (op : Byte) : Nat := (op.extractLsb' 4 2).toNat

/-- q = op[3]. -/
def fieldQ (op : Byte) : Nat := (op.extractLsb' 3 1).toNat

/-! ## The selectors (R102 to R111) -/

/-- The value of the selector (R102). -/
def operandOf (n : Nat) : Operand8 :=
  match n with
  | 0 => .b
  | 1 => .c
  | 2 => .d
  | 3 => .e
  | 4 => .h
  | 5 => .l
  | 6 => .indHL
  | _ => .a

/-- The value of the selector (R104). -/
def pairOf (n : Nat) : Pair :=
  match n with
  | 0 => .bc
  | 1 => .de
  | 2 => .hl
  | _ => .sp

/-- The value of the selector (R105). -/
def stackPairOf (n : Nat) : StackPair :=
  match n with
  | 0 => .bc
  | 1 => .de
  | 2 => .hl
  | _ => .af

/-- The value of the selector (R106). -/
def indirectOf (n : Nat) : Indirect :=
  match n with
  | 0 => .bc
  | 1 => .de
  | 2 => .hlInc
  | _ => .hlDec

/-- The value of the selector (R107). -/
def condOf (n : Nat) : Cond :=
  match n with
  | 0 => .nz
  | 1 => .z
  | 2 => .nc
  | _ => .c

/-- The value of the selector (R108). -/
def aluOf (n : Nat) : AluOp :=
  match n with
  | 0 => .add
  | 1 => .adc
  | 2 => .sub
  | 3 => .sbc
  | 4 => .and
  | 5 => .xor
  | 6 => .or
  | _ => .cp

/-- The value of the selector (R109). -/
def rotOf (n : Nat) : RotOp :=
  match n with
  | 0 => .rlc
  | 1 => .rrc
  | 2 => .rl
  | 3 => .rr
  | 4 => .sla
  | 5 => .sra
  | 6 => .swap
  | _ => .srl

/-- The value of the selector (R110). -/
def bitOf (n : Nat) : BitIndex :=
  match n with
  | 0 => .b0
  | 1 => .b1
  | 2 => .b2
  | 3 => .b3
  | 4 => .b4
  | 5 => .b5
  | 6 => .b6
  | _ => .b7

/-- The value of the selector (R111). -/
def restartOf (n : Nat) : Restart :=
  match n with
  | 0 => .t00
  | 1 => .t08
  | 2 => .t10
  | 3 => .t18
  | 4 => .t20
  | 5 => .t28
  | 6 => .t30
  | _ => .t38

/-! ## The rows of the opcode map, by their selectors (R118 to R122) -/

/-- Block x = 1 (R119): `LD r8[y],r8[z]`, and HALT in the slot of `LD (HL),(HL)`. -/
def rowLd (dst src : Operand8) : Instr :=
  match dst, src with
  | .b, .b => .ldBB
  | .b, .c => .ldBC
  | .b, .d => .ldBD
  | .b, .e => .ldBE
  | .b, .h => .ldBH
  | .b, .l => .ldBL
  | .b, .indHL => .ldBIndHL
  | .b, .a => .ldBA
  | .c, .b => .ldCB
  | .c, .c => .ldCC
  | .c, .d => .ldCD
  | .c, .e => .ldCE
  | .c, .h => .ldCH
  | .c, .l => .ldCL
  | .c, .indHL => .ldCIndHL
  | .c, .a => .ldCA
  | .d, .b => .ldDB
  | .d, .c => .ldDC
  | .d, .d => .ldDD
  | .d, .e => .ldDE
  | .d, .h => .ldDH
  | .d, .l => .ldDL
  | .d, .indHL => .ldDIndHL
  | .d, .a => .ldDA
  | .e, .b => .ldEB
  | .e, .c => .ldEC
  | .e, .d => .ldED
  | .e, .e => .ldEE
  | .e, .h => .ldEH
  | .e, .l => .ldEL
  | .e, .indHL => .ldEIndHL
  | .e, .a => .ldEA
  | .h, .b => .ldHB
  | .h, .c => .ldHC
  | .h, .d => .ldHD
  | .h, .e => .ldHE
  | .h, .h => .ldHH
  | .h, .l => .ldHL
  | .h, .indHL => .ldHIndHL
  | .h, .a => .ldHA
  | .l, .b => .ldLB
  | .l, .c => .ldLC
  | .l, .d => .ldLD
  | .l, .e => .ldLE
  | .l, .h => .ldLH
  | .l, .l => .ldLL
  | .l, .indHL => .ldLIndHL
  | .l, .a => .ldLA
  | .indHL, .b => .ldIndHLB
  | .indHL, .c => .ldIndHLC
  | .indHL, .d => .ldIndHLD
  | .indHL, .e => .ldIndHLE
  | .indHL, .h => .ldIndHLH
  | .indHL, .l => .ldIndHLL
  | .indHL, .indHL => .halt
  | .indHL, .a => .ldIndHLA
  | .a, .b => .ldAB
  | .a, .c => .ldAC
  | .a, .d => .ldAD
  | .a, .e => .ldAE
  | .a, .h => .ldAH
  | .a, .l => .ldAL
  | .a, .indHL => .ldAIndHL
  | .a, .a => .ldAA

/-- Block x = 2 (R120): `ALU[y] A,r8[z]`. -/
def rowAlu (op : AluOp) (r : Operand8) : Instr :=
  match op, r with
  | .add, .b => .addAB
  | .add, .c => .addAC
  | .add, .d => .addAD
  | .add, .e => .addAE
  | .add, .h => .addAH
  | .add, .l => .addAL
  | .add, .indHL => .addAIndHL
  | .add, .a => .addAA
  | .adc, .b => .adcAB
  | .adc, .c => .adcAC
  | .adc, .d => .adcAD
  | .adc, .e => .adcAE
  | .adc, .h => .adcAH
  | .adc, .l => .adcAL
  | .adc, .indHL => .adcAIndHL
  | .adc, .a => .adcAA
  | .sub, .b => .subB
  | .sub, .c => .subC
  | .sub, .d => .subD
  | .sub, .e => .subE
  | .sub, .h => .subH
  | .sub, .l => .subL
  | .sub, .indHL => .subIndHL
  | .sub, .a => .subA
  | .sbc, .b => .sbcAB
  | .sbc, .c => .sbcAC
  | .sbc, .d => .sbcAD
  | .sbc, .e => .sbcAE
  | .sbc, .h => .sbcAH
  | .sbc, .l => .sbcAL
  | .sbc, .indHL => .sbcAIndHL
  | .sbc, .a => .sbcAA
  | .and, .b => .andB
  | .and, .c => .andC
  | .and, .d => .andD
  | .and, .e => .andE
  | .and, .h => .andH
  | .and, .l => .andL
  | .and, .indHL => .andIndHL
  | .and, .a => .andA
  | .xor, .b => .xorB
  | .xor, .c => .xorC
  | .xor, .d => .xorD
  | .xor, .e => .xorE
  | .xor, .h => .xorH
  | .xor, .l => .xorL
  | .xor, .indHL => .xorIndHL
  | .xor, .a => .xorA
  | .or, .b => .orB
  | .or, .c => .orC
  | .or, .d => .orD
  | .or, .e => .orE
  | .or, .h => .orH
  | .or, .l => .orL
  | .or, .indHL => .orIndHL
  | .or, .a => .orA
  | .cp, .b => .cpB
  | .cp, .c => .cpC
  | .cp, .d => .cpD
  | .cp, .e => .cpE
  | .cp, .h => .cpH
  | .cp, .l => .cpL
  | .cp, .indHL => .cpIndHL
  | .cp, .a => .cpA

/-- Block x = 3, z = 6 (R121): `ALU[y] A,d8`. -/
def rowAluImm (op : AluOp) (d8 : Byte) : Instr :=
  match op with
  | .add => .addAImm8 d8
  | .adc => .adcAImm8 d8
  | .sub => .subImm8 d8
  | .sbc => .sbcAImm8 d8
  | .and => .andImm8 d8
  | .xor => .xorImm8 d8
  | .or => .orImm8 d8
  | .cp => .cpImm8 d8

/-- Block x = 0, z = 4 (R118): `INC r8[y]`. -/
def rowInc (r : Operand8) : Instr :=
  match r with
  | .b => .incB
  | .c => .incC
  | .d => .incD
  | .e => .incE
  | .h => .incH
  | .l => .incL
  | .indHL => .incIndHL
  | .a => .incA

/-- Block x = 0, z = 5 (R118): `DEC r8[y]`. -/
def rowDec (r : Operand8) : Instr :=
  match r with
  | .b => .decB
  | .c => .decC
  | .d => .decD
  | .e => .decE
  | .h => .decH
  | .l => .decL
  | .indHL => .decIndHL
  | .a => .decA

/-- Block x = 0, z = 6 (R118): `LD r8[y],d8`. -/
def rowLdImm8 (r : Operand8) (d8 : Byte) : Instr :=
  match r with
  | .b => .ldBImm8 d8
  | .c => .ldCImm8 d8
  | .d => .ldDImm8 d8
  | .e => .ldEImm8 d8
  | .h => .ldHImm8 d8
  | .l => .ldLImm8 d8
  | .indHL => .ldIndHLImm8 d8
  | .a => .ldAImm8 d8

/-- Block x = 0, z = 1, q = 0 (R118): `LD r16[p],d16`. -/
def rowLdImm16 (p : Pair) (d16 : Word) : Instr :=
  match p with
  | .bc => .ldBCImm16 d16
  | .de => .ldDEImm16 d16
  | .hl => .ldHLImm16 d16
  | .sp => .ldSPImm16 d16

/-- Block x = 0, z = 1, q = 1 (R118): `ADD HL,r16[p]`. -/
def rowAddHL (p : Pair) : Instr :=
  match p with
  | .bc => .addHLBC
  | .de => .addHLDE
  | .hl => .addHLHL
  | .sp => .addHLSP

/-- Block x = 0, z = 3, q = 0 (R118): `INC r16[p]`. -/
def rowIncPair (p : Pair) : Instr :=
  match p with
  | .bc => .incBC
  | .de => .incDE
  | .hl => .incHL
  | .sp => .incSP

/-- Block x = 0, z = 3, q = 1 (R118): `DEC r16[p]`. -/
def rowDecPair (p : Pair) : Instr :=
  match p with
  | .bc => .decBC
  | .de => .decDE
  | .hl => .decHL
  | .sp => .decSP

/-- Block x = 0, z = 2, q = 0 (R118): `LD (r16mem[p]),A`. -/
def rowStoreInd (m : Indirect) : Instr :=
  match m with
  | .bc => .ldIndBCA
  | .de => .ldIndDEA
  | .hlInc => .ldIndHLIncA
  | .hlDec => .ldIndHLDecA

/-- Block x = 0, z = 2, q = 1 (R118): `LD A,(r16mem[p])`. -/
def rowLoadInd (m : Indirect) : Instr :=
  match m with
  | .bc => .ldAIndBC
  | .de => .ldAIndDE
  | .hlInc => .ldAIndHLInc
  | .hlDec => .ldAIndHLDec

/-- Block x = 0, z = 0, y = 4..7 (R118): `JR cc,e8`. -/
def rowJr (cc : Cond) (e8 : Byte) : Instr :=
  match cc with
  | .nz => .jrNZ e8
  | .z => .jrZ e8
  | .nc => .jrNC e8
  | .c => .jrC e8

/-- Block x = 3, z = 2, y = 0..3 (R121): `JP cc,a16`. -/
def rowJp (cc : Cond) (a16 : Word) : Instr :=
  match cc with
  | .nz => .jpNZ a16
  | .z => .jpZ a16
  | .nc => .jpNC a16
  | .c => .jpC a16

/-- Block x = 3, z = 4, y = 0..3 (R121): `CALL cc,a16`. -/
def rowCall (cc : Cond) (a16 : Word) : Instr :=
  match cc with
  | .nz => .callNZ a16
  | .z => .callZ a16
  | .nc => .callNC a16
  | .c => .callC a16

/-- Block x = 3, z = 0, y = 0..3 (R121): `RET cc`. -/
def rowRet (cc : Cond) : Instr :=
  match cc with
  | .nz => .retNZ
  | .z => .retZ
  | .nc => .retNC
  | .c => .retC

/-- Block x = 3, z = 7 (R121): `RST y*8`. -/
def rowRst (t : Restart) : Instr :=
  match t with
  | .t00 => .rst00
  | .t08 => .rst08
  | .t10 => .rst10
  | .t18 => .rst18
  | .t20 => .rst20
  | .t28 => .rst28
  | .t30 => .rst30
  | .t38 => .rst38

/-- Block x = 3, z = 5, q = 0 (R121): `PUSH r16stk[p]`. -/
def rowPush (q : StackPair) : Instr :=
  match q with
  | .bc => .pushBC
  | .de => .pushDE
  | .hl => .pushHL
  | .af => .pushAF

/-- Block x = 3, z = 1, q = 0 (R121): `POP r16stk[p]`. -/
def rowPop (q : StackPair) : Instr :=
  match q with
  | .bc => .popBC
  | .de => .popDE
  | .hl => .popHL
  | .af => .popAF

/-- CB block x = 0 (R122): `ROT[y] r8[z]`. -/
def rowRot (op : RotOp) (r : Operand8) : Instr :=
  match op, r with
  | .rlc, .b => .rlcB
  | .rlc, .c => .rlcC
  | .rlc, .d => .rlcD
  | .rlc, .e => .rlcE
  | .rlc, .h => .rlcH
  | .rlc, .l => .rlcL
  | .rlc, .indHL => .rlcIndHL
  | .rlc, .a => .rlcA
  | .rrc, .b => .rrcB
  | .rrc, .c => .rrcC
  | .rrc, .d => .rrcD
  | .rrc, .e => .rrcE
  | .rrc, .h => .rrcH
  | .rrc, .l => .rrcL
  | .rrc, .indHL => .rrcIndHL
  | .rrc, .a => .rrcA
  | .rl, .b => .rlB
  | .rl, .c => .rlC
  | .rl, .d => .rlD
  | .rl, .e => .rlE
  | .rl, .h => .rlH
  | .rl, .l => .rlL
  | .rl, .indHL => .rlIndHL
  | .rl, .a => .rlA
  | .rr, .b => .rrB
  | .rr, .c => .rrC
  | .rr, .d => .rrD
  | .rr, .e => .rrE
  | .rr, .h => .rrH
  | .rr, .l => .rrL
  | .rr, .indHL => .rrIndHL
  | .rr, .a => .rrA
  | .sla, .b => .slaB
  | .sla, .c => .slaC
  | .sla, .d => .slaD
  | .sla, .e => .slaE
  | .sla, .h => .slaH
  | .sla, .l => .slaL
  | .sla, .indHL => .slaIndHL
  | .sla, .a => .slaA
  | .sra, .b => .sraB
  | .sra, .c => .sraC
  | .sra, .d => .sraD
  | .sra, .e => .sraE
  | .sra, .h => .sraH
  | .sra, .l => .sraL
  | .sra, .indHL => .sraIndHL
  | .sra, .a => .sraA
  | .swap, .b => .swapB
  | .swap, .c => .swapC
  | .swap, .d => .swapD
  | .swap, .e => .swapE
  | .swap, .h => .swapH
  | .swap, .l => .swapL
  | .swap, .indHL => .swapIndHL
  | .swap, .a => .swapA
  | .srl, .b => .srlB
  | .srl, .c => .srlC
  | .srl, .d => .srlD
  | .srl, .e => .srlE
  | .srl, .h => .srlH
  | .srl, .l => .srlL
  | .srl, .indHL => .srlIndHL
  | .srl, .a => .srlA

/-- CB block x = 1 (R122): `BIT y,r8[z]`. -/
def rowBit (i : BitIndex) (r : Operand8) : Instr :=
  match i, r with
  | .b0, .b => .bit0B
  | .b0, .c => .bit0C
  | .b0, .d => .bit0D
  | .b0, .e => .bit0E
  | .b0, .h => .bit0H
  | .b0, .l => .bit0L
  | .b0, .indHL => .bit0IndHL
  | .b0, .a => .bit0A
  | .b1, .b => .bit1B
  | .b1, .c => .bit1C
  | .b1, .d => .bit1D
  | .b1, .e => .bit1E
  | .b1, .h => .bit1H
  | .b1, .l => .bit1L
  | .b1, .indHL => .bit1IndHL
  | .b1, .a => .bit1A
  | .b2, .b => .bit2B
  | .b2, .c => .bit2C
  | .b2, .d => .bit2D
  | .b2, .e => .bit2E
  | .b2, .h => .bit2H
  | .b2, .l => .bit2L
  | .b2, .indHL => .bit2IndHL
  | .b2, .a => .bit2A
  | .b3, .b => .bit3B
  | .b3, .c => .bit3C
  | .b3, .d => .bit3D
  | .b3, .e => .bit3E
  | .b3, .h => .bit3H
  | .b3, .l => .bit3L
  | .b3, .indHL => .bit3IndHL
  | .b3, .a => .bit3A
  | .b4, .b => .bit4B
  | .b4, .c => .bit4C
  | .b4, .d => .bit4D
  | .b4, .e => .bit4E
  | .b4, .h => .bit4H
  | .b4, .l => .bit4L
  | .b4, .indHL => .bit4IndHL
  | .b4, .a => .bit4A
  | .b5, .b => .bit5B
  | .b5, .c => .bit5C
  | .b5, .d => .bit5D
  | .b5, .e => .bit5E
  | .b5, .h => .bit5H
  | .b5, .l => .bit5L
  | .b5, .indHL => .bit5IndHL
  | .b5, .a => .bit5A
  | .b6, .b => .bit6B
  | .b6, .c => .bit6C
  | .b6, .d => .bit6D
  | .b6, .e => .bit6E
  | .b6, .h => .bit6H
  | .b6, .l => .bit6L
  | .b6, .indHL => .bit6IndHL
  | .b6, .a => .bit6A
  | .b7, .b => .bit7B
  | .b7, .c => .bit7C
  | .b7, .d => .bit7D
  | .b7, .e => .bit7E
  | .b7, .h => .bit7H
  | .b7, .l => .bit7L
  | .b7, .indHL => .bit7IndHL
  | .b7, .a => .bit7A

/-- CB block x = 2 (R122): `RES y,r8[z]`. -/
def rowRes (i : BitIndex) (r : Operand8) : Instr :=
  match i, r with
  | .b0, .b => .res0B
  | .b0, .c => .res0C
  | .b0, .d => .res0D
  | .b0, .e => .res0E
  | .b0, .h => .res0H
  | .b0, .l => .res0L
  | .b0, .indHL => .res0IndHL
  | .b0, .a => .res0A
  | .b1, .b => .res1B
  | .b1, .c => .res1C
  | .b1, .d => .res1D
  | .b1, .e => .res1E
  | .b1, .h => .res1H
  | .b1, .l => .res1L
  | .b1, .indHL => .res1IndHL
  | .b1, .a => .res1A
  | .b2, .b => .res2B
  | .b2, .c => .res2C
  | .b2, .d => .res2D
  | .b2, .e => .res2E
  | .b2, .h => .res2H
  | .b2, .l => .res2L
  | .b2, .indHL => .res2IndHL
  | .b2, .a => .res2A
  | .b3, .b => .res3B
  | .b3, .c => .res3C
  | .b3, .d => .res3D
  | .b3, .e => .res3E
  | .b3, .h => .res3H
  | .b3, .l => .res3L
  | .b3, .indHL => .res3IndHL
  | .b3, .a => .res3A
  | .b4, .b => .res4B
  | .b4, .c => .res4C
  | .b4, .d => .res4D
  | .b4, .e => .res4E
  | .b4, .h => .res4H
  | .b4, .l => .res4L
  | .b4, .indHL => .res4IndHL
  | .b4, .a => .res4A
  | .b5, .b => .res5B
  | .b5, .c => .res5C
  | .b5, .d => .res5D
  | .b5, .e => .res5E
  | .b5, .h => .res5H
  | .b5, .l => .res5L
  | .b5, .indHL => .res5IndHL
  | .b5, .a => .res5A
  | .b6, .b => .res6B
  | .b6, .c => .res6C
  | .b6, .d => .res6D
  | .b6, .e => .res6E
  | .b6, .h => .res6H
  | .b6, .l => .res6L
  | .b6, .indHL => .res6IndHL
  | .b6, .a => .res6A
  | .b7, .b => .res7B
  | .b7, .c => .res7C
  | .b7, .d => .res7D
  | .b7, .e => .res7E
  | .b7, .h => .res7H
  | .b7, .l => .res7L
  | .b7, .indHL => .res7IndHL
  | .b7, .a => .res7A

/-- CB block x = 3 (R122): `SET y,r8[z]`. -/
def rowSet (i : BitIndex) (r : Operand8) : Instr :=
  match i, r with
  | .b0, .b => .set0B
  | .b0, .c => .set0C
  | .b0, .d => .set0D
  | .b0, .e => .set0E
  | .b0, .h => .set0H
  | .b0, .l => .set0L
  | .b0, .indHL => .set0IndHL
  | .b0, .a => .set0A
  | .b1, .b => .set1B
  | .b1, .c => .set1C
  | .b1, .d => .set1D
  | .b1, .e => .set1E
  | .b1, .h => .set1H
  | .b1, .l => .set1L
  | .b1, .indHL => .set1IndHL
  | .b1, .a => .set1A
  | .b2, .b => .set2B
  | .b2, .c => .set2C
  | .b2, .d => .set2D
  | .b2, .e => .set2E
  | .b2, .h => .set2H
  | .b2, .l => .set2L
  | .b2, .indHL => .set2IndHL
  | .b2, .a => .set2A
  | .b3, .b => .set3B
  | .b3, .c => .set3C
  | .b3, .d => .set3D
  | .b3, .e => .set3E
  | .b3, .h => .set3H
  | .b3, .l => .set3L
  | .b3, .indHL => .set3IndHL
  | .b3, .a => .set3A
  | .b4, .b => .set4B
  | .b4, .c => .set4C
  | .b4, .d => .set4D
  | .b4, .e => .set4E
  | .b4, .h => .set4H
  | .b4, .l => .set4L
  | .b4, .indHL => .set4IndHL
  | .b4, .a => .set4A
  | .b5, .b => .set5B
  | .b5, .c => .set5C
  | .b5, .d => .set5D
  | .b5, .e => .set5E
  | .b5, .h => .set5H
  | .b5, .l => .set5L
  | .b5, .indHL => .set5IndHL
  | .b5, .a => .set5A
  | .b6, .b => .set6B
  | .b6, .c => .set6C
  | .b6, .d => .set6D
  | .b6, .e => .set6E
  | .b6, .h => .set6H
  | .b6, .l => .set6L
  | .b6, .indHL => .set6IndHL
  | .b6, .a => .set6A
  | .b7, .b => .set7B
  | .b7, .c => .set7C
  | .b7, .d => .set7D
  | .b7, .e => .set7E
  | .b7, .h => .set7H
  | .b7, .l => .set7L
  | .b7, .indHL => .set7IndHL
  | .b7, .a => .set7A

/-! ## The base table (R118 to R121) -/

/-- Block x = 0 (R118); `lo` and `hi` are the immediate bytes. -/
def decodeBlock0 (op lo hi : Byte) : Instr :=
  let y := fieldY op
  let p := fieldP op
  match fieldZ op with
  | 0 =>
    match y with
    | 0 => .nop
    | 1 => .ldIndA16SP (joinBytes hi lo)
    | 2 => .stop lo
    | 3 => .jr lo
    | _ => rowJr (condOf (y - 4)) lo
  | 1 => if fieldQ op = 0 then rowLdImm16 (pairOf p) (joinBytes hi lo) else rowAddHL (pairOf p)
  | 2 => if fieldQ op = 0 then rowStoreInd (indirectOf p) else rowLoadInd (indirectOf p)
  | 3 => if fieldQ op = 0 then rowIncPair (pairOf p) else rowDecPair (pairOf p)
  | 4 => rowInc (operandOf y)
  | 5 => rowDec (operandOf y)
  | 6 => rowLdImm8 (operandOf y) lo
  | _ =>
    match y with
    | 0 => .rlca
    | 1 => .rrca
    | 2 => .rla
    | 3 => .rra
    | 4 => .daa
    | 5 => .cpl
    | 6 => .scf
    | _ => .ccf

/-- Block x = 3 (R121); the illegal slots of R123 are the rows `illegal..`. -/
def decodeBlock3 (op lo hi : Byte) : Instr :=
  let y := fieldY op
  let p := fieldP op
  match fieldZ op with
  | 0 =>
    match y with
    | 4 => .ldhIndA8A lo
    | 5 => .addSPe8 lo
    | 6 => .ldhAIndA8 lo
    | 7 => .ldHLSPe8 lo
    | _ => rowRet (condOf y)
  | 1 =>
    if fieldQ op = 0 then rowPop (stackPairOf p)
    else
      match p with
      | 0 => .ret
      | 1 => .reti
      | 2 => .jpHL
      | _ => .ldSPHL
  | 2 =>
    match y with
    | 4 => .ldIndCA
    | 5 => .ldIndA16A (joinBytes hi lo)
    | 6 => .ldAIndC
    | 7 => .ldAIndA16 (joinBytes hi lo)
    | _ => rowJp (condOf y) (joinBytes hi lo)
  | 3 =>
    match y with
    | 0 => .jp (joinBytes hi lo)
    | 1 => .prefixCB
    | 2 => .illegalD3
    | 3 => .illegalDB
    | 4 => .illegalE3
    | 5 => .illegalEB
    | 6 => .di
    | _ => .ei
  | 4 =>
    match y with
    | 4 => .illegalE4
    | 5 => .illegalEC
    | 6 => .illegalF4
    | 7 => .illegalFC
    | _ => rowCall (condOf y) (joinBytes hi lo)
  | 5 =>
    if fieldQ op = 0 then rowPush (stackPairOf p)
    else
      match p with
      | 0 => .call (joinBytes hi lo)
      | 1 => .illegalDD
      | 2 => .illegalED
      | _ => .illegalFD
  | 6 => rowAluImm (aluOf y) lo
  | _ => rowRst (restartOf y)

/-- The row the base table holds for an opcode byte, with its immediate bytes; total (R126). -/
def decodeBase (op lo hi : Byte) : Instr :=
  match fieldX op with
  | 0 => decodeBlock0 op lo hi
  | 1 => rowLd (operandOf (fieldY op)) (operandOf (fieldZ op))
  | 2 => rowAlu (aluOf (fieldY op)) (operandOf (fieldZ op))
  | _ => decodeBlock3 op lo hi

/-- The row the CB table holds for the byte after the prefix (R122); total (R126). -/
def decodeCB (cb : Byte) : Instr :=
  match fieldX cb with
  | 0 => rowRot (rotOf (fieldY cb)) (operandOf (fieldZ cb))
  | 1 => rowBit (bitOf (fieldY cb)) (operandOf (fieldZ cb))
  | 2 => rowRes (bitOf (fieldY cb)) (operandOf (fieldZ cb))
  | _ => rowSet (bitOf (fieldY cb)) (operandOf (fieldZ cb))

/-! ## Lengths (R132) -/

/-- R132: the length in bytes of every base opcode, row by high nibble and column by low nibble; 0xCB is 2,
the prefix and the CB opcode. -/
def lengthTable : List (List Nat) :=
  [[1, 3, 1, 1, 1, 1, 2, 1, 3, 1, 1, 1, 1, 1, 2, 1],
   [2, 3, 1, 1, 1, 1, 2, 1, 2, 1, 1, 1, 1, 1, 2, 1],
   [2, 3, 1, 1, 1, 1, 2, 1, 2, 1, 1, 1, 1, 1, 2, 1],
   [2, 3, 1, 1, 1, 1, 2, 1, 2, 1, 1, 1, 1, 1, 2, 1],
   [1, 1, 1, 1, 1, 1, 1, 1, 1, 1, 1, 1, 1, 1, 1, 1],
   [1, 1, 1, 1, 1, 1, 1, 1, 1, 1, 1, 1, 1, 1, 1, 1],
   [1, 1, 1, 1, 1, 1, 1, 1, 1, 1, 1, 1, 1, 1, 1, 1],
   [1, 1, 1, 1, 1, 1, 1, 1, 1, 1, 1, 1, 1, 1, 1, 1],
   [1, 1, 1, 1, 1, 1, 1, 1, 1, 1, 1, 1, 1, 1, 1, 1],
   [1, 1, 1, 1, 1, 1, 1, 1, 1, 1, 1, 1, 1, 1, 1, 1],
   [1, 1, 1, 1, 1, 1, 1, 1, 1, 1, 1, 1, 1, 1, 1, 1],
   [1, 1, 1, 1, 1, 1, 1, 1, 1, 1, 1, 1, 1, 1, 1, 1],
   [1, 1, 3, 3, 3, 1, 2, 1, 1, 1, 3, 2, 3, 3, 2, 1],
   [1, 1, 3, 1, 3, 1, 2, 1, 1, 1, 3, 1, 3, 1, 2, 1],
   [2, 1, 1, 1, 1, 1, 2, 1, 2, 1, 3, 1, 1, 1, 2, 1],
   [2, 1, 1, 1, 1, 1, 2, 1, 2, 1, 3, 1, 1, 1, 2, 1]]

/-- The length of the instruction that begins with a byte (R124, R132). -/
def instrLength (op : Byte) : Nat := (lengthTable.getD (op.toNat / 16) []).getD (op.toNat % 16) 1

/-! ## Bytes to instructions -/

/-- Why a list of bytes holds no whole instruction. Every byte VALUE decodes (R126); only a list that ends
too early does not. -/
inductive DecodeError where
  | noBytes
  | endsInsideInstruction (opcode : Byte)
  deriving DecidableEq, Repr

/-- Decode the instruction at the front of a list of bytes, with the rest of the list. A list that is the
prefix byte alone is the prefix row alone (R101, format `prefix`; log entry 6). -/
def decode (bytes : List Byte) : Except DecodeError (Instr × List Byte) :=
  match bytes with
  | [] => .error .noBytes
  | op :: rest =>
    if op = Config.cbPrefix then
      match rest with
      | [] => .ok (.prefixCB, [])
      | cb :: rest' => .ok (decodeCB cb, rest')
    else
      match instrLength op, rest with
      | 1, rest' => .ok (decodeBase op 0 0, rest')
      | 2, n :: rest' => .ok (decodeBase op n 0, rest')
      | 3, lo :: hi :: rest' => .ok (decodeBase op lo hi, rest')
      | _, _ => .error (.endsInsideInstruction op)

/-- The bytes of a word of the opcode table, the first byte of the instruction first, filled up with zero
bytes where the table gives the immediate bytes no bits. A CB row is written in the table as one number
with the prefix in bits 15..8 (98_reader.md; log entry 7); the prefix row is its one byte. -/
def tableBytes (nbits w : Nat) : List Byte :=
  if nbits = 16 ∧ BitVec.ofNat 8 (w / 256) = Config.cbPrefix then [Config.cbPrefix, BitVec.ofNat 8 w]
  else if nbits = 8 ∧ BitVec.ofNat 8 w = Config.cbPrefix then [Config.cbPrefix]
  else
    let v := w % 2 ^ nbits
    [BitVec.ofNat 8 v, BitVec.ofNat 8 (v / 256), BitVec.ofNat 8 (v / 65536)]

/-- The instruction the decoder reads from a word of the opcode table. -/
def decodeTableWord (nbits w : Nat) : Option Instr :=
  match decode (tableBytes nbits w) with
  | .ok (i, _) => some i
  | .error _ => none

/-! ## Instructions to bytes (R133, R134, R101) -/

/-- The bytes of an instruction, the opcode first, immediates little-endian (R113). -/
def encode (i : Instr) : List Byte :=
  match i with
  | .nop => [0x00#8]
  | .ldBCImm16 d16 => [0x01#8, lowByte d16, highByte d16]
  | .ldIndBCA => [0x02#8]
  | .incBC => [0x03#8]
  | .incB => [0x04#8]
  | .decB => [0x05#8]
  | .ldBImm8 d8 => [0x06#8, d8]
  | .rlca => [0x07#8]
  | .ldIndA16SP a16 => [0x08#8, lowByte a16, highByte a16]
  | .addHLBC => [0x09#8]
  | .ldAIndBC => [0x0A#8]
  | .decBC => [0x0B#8]
  | .incC => [0x0C#8]
  | .decC => [0x0D#8]
  | .ldCImm8 d8 => [0x0E#8, d8]
  | .rrca => [0x0F#8]
  | .stop n => [0x10#8, n]
  | .ldDEImm16 d16 => [0x11#8, lowByte d16, highByte d16]
  | .ldIndDEA => [0x12#8]
  | .incDE => [0x13#8]
  | .incD => [0x14#8]
  | .decD => [0x15#8]
  | .ldDImm8 d8 => [0x16#8, d8]
  | .rla => [0x17#8]
  | .jr e8 => [0x18#8, e8]
  | .addHLDE => [0x19#8]
  | .ldAIndDE => [0x1A#8]
  | .decDE => [0x1B#8]
  | .incE => [0x1C#8]
  | .decE => [0x1D#8]
  | .ldEImm8 d8 => [0x1E#8, d8]
  | .rra => [0x1F#8]
  | .jrNZ e8 => [0x20#8, e8]
  | .ldHLImm16 d16 => [0x21#8, lowByte d16, highByte d16]
  | .ldIndHLIncA => [0x22#8]
  | .incHL => [0x23#8]
  | .incH => [0x24#8]
  | .decH => [0x25#8]
  | .ldHImm8 d8 => [0x26#8, d8]
  | .daa => [0x27#8]
  | .jrZ e8 => [0x28#8, e8]
  | .addHLHL => [0x29#8]
  | .ldAIndHLInc => [0x2A#8]
  | .decHL => [0x2B#8]
  | .incL => [0x2C#8]
  | .decL => [0x2D#8]
  | .ldLImm8 d8 => [0x2E#8, d8]
  | .cpl => [0x2F#8]
  | .jrNC e8 => [0x30#8, e8]
  | .ldSPImm16 d16 => [0x31#8, lowByte d16, highByte d16]
  | .ldIndHLDecA => [0x32#8]
  | .incSP => [0x33#8]
  | .incIndHL => [0x34#8]
  | .decIndHL => [0x35#8]
  | .ldIndHLImm8 d8 => [0x36#8, d8]
  | .scf => [0x37#8]
  | .jrC e8 => [0x38#8, e8]
  | .addHLSP => [0x39#8]
  | .ldAIndHLDec => [0x3A#8]
  | .decSP => [0x3B#8]
  | .incA => [0x3C#8]
  | .decA => [0x3D#8]
  | .ldAImm8 d8 => [0x3E#8, d8]
  | .ccf => [0x3F#8]
  | .ldBB => [0x40#8]
  | .ldBC => [0x41#8]
  | .ldBD => [0x42#8]
  | .ldBE => [0x43#8]
  | .ldBH => [0x44#8]
  | .ldBL => [0x45#8]
  | .ldBIndHL => [0x46#8]
  | .ldBA => [0x47#8]
  | .ldCB => [0x48#8]
  | .ldCC => [0x49#8]
  | .ldCD => [0x4A#8]
  | .ldCE => [0x4B#8]
  | .ldCH => [0x4C#8]
  | .ldCL => [0x4D#8]
  | .ldCIndHL => [0x4E#8]
  | .ldCA => [0x4F#8]
  | .ldDB => [0x50#8]
  | .ldDC => [0x51#8]
  | .ldDD => [0x52#8]
  | .ldDE => [0x53#8]
  | .ldDH => [0x54#8]
  | .ldDL => [0x55#8]
  | .ldDIndHL => [0x56#8]
  | .ldDA => [0x57#8]
  | .ldEB => [0x58#8]
  | .ldEC => [0x59#8]
  | .ldED => [0x5A#8]
  | .ldEE => [0x5B#8]
  | .ldEH => [0x5C#8]
  | .ldEL => [0x5D#8]
  | .ldEIndHL => [0x5E#8]
  | .ldEA => [0x5F#8]
  | .ldHB => [0x60#8]
  | .ldHC => [0x61#8]
  | .ldHD => [0x62#8]
  | .ldHE => [0x63#8]
  | .ldHH => [0x64#8]
  | .ldHL => [0x65#8]
  | .ldHIndHL => [0x66#8]
  | .ldHA => [0x67#8]
  | .ldLB => [0x68#8]
  | .ldLC => [0x69#8]
  | .ldLD => [0x6A#8]
  | .ldLE => [0x6B#8]
  | .ldLH => [0x6C#8]
  | .ldLL => [0x6D#8]
  | .ldLIndHL => [0x6E#8]
  | .ldLA => [0x6F#8]
  | .ldIndHLB => [0x70#8]
  | .ldIndHLC => [0x71#8]
  | .ldIndHLD => [0x72#8]
  | .ldIndHLE => [0x73#8]
  | .ldIndHLH => [0x74#8]
  | .ldIndHLL => [0x75#8]
  | .halt => [0x76#8]
  | .ldIndHLA => [0x77#8]
  | .ldAB => [0x78#8]
  | .ldAC => [0x79#8]
  | .ldAD => [0x7A#8]
  | .ldAE => [0x7B#8]
  | .ldAH => [0x7C#8]
  | .ldAL => [0x7D#8]
  | .ldAIndHL => [0x7E#8]
  | .ldAA => [0x7F#8]
  | .addAB => [0x80#8]
  | .addAC => [0x81#8]
  | .addAD => [0x82#8]
  | .addAE => [0x83#8]
  | .addAH => [0x84#8]
  | .addAL => [0x85#8]
  | .addAIndHL => [0x86#8]
  | .addAA => [0x87#8]
  | .adcAB => [0x88#8]
  | .adcAC => [0x89#8]
  | .adcAD => [0x8A#8]
  | .adcAE => [0x8B#8]
  | .adcAH => [0x8C#8]
  | .adcAL => [0x8D#8]
  | .adcAIndHL => [0x8E#8]
  | .adcAA => [0x8F#8]
  | .subB => [0x90#8]
  | .subC => [0x91#8]
  | .subD => [0x92#8]
  | .subE => [0x93#8]
  | .subH => [0x94#8]
  | .subL => [0x95#8]
  | .subIndHL => [0x96#8]
  | .subA => [0x97#8]
  | .sbcAB => [0x98#8]
  | .sbcAC => [0x99#8]
  | .sbcAD => [0x9A#8]
  | .sbcAE => [0x9B#8]
  | .sbcAH => [0x9C#8]
  | .sbcAL => [0x9D#8]
  | .sbcAIndHL => [0x9E#8]
  | .sbcAA => [0x9F#8]
  | .andB => [0xA0#8]
  | .andC => [0xA1#8]
  | .andD => [0xA2#8]
  | .andE => [0xA3#8]
  | .andH => [0xA4#8]
  | .andL => [0xA5#8]
  | .andIndHL => [0xA6#8]
  | .andA => [0xA7#8]
  | .xorB => [0xA8#8]
  | .xorC => [0xA9#8]
  | .xorD => [0xAA#8]
  | .xorE => [0xAB#8]
  | .xorH => [0xAC#8]
  | .xorL => [0xAD#8]
  | .xorIndHL => [0xAE#8]
  | .xorA => [0xAF#8]
  | .orB => [0xB0#8]
  | .orC => [0xB1#8]
  | .orD => [0xB2#8]
  | .orE => [0xB3#8]
  | .orH => [0xB4#8]
  | .orL => [0xB5#8]
  | .orIndHL => [0xB6#8]
  | .orA => [0xB7#8]
  | .cpB => [0xB8#8]
  | .cpC => [0xB9#8]
  | .cpD => [0xBA#8]
  | .cpE => [0xBB#8]
  | .cpH => [0xBC#8]
  | .cpL => [0xBD#8]
  | .cpIndHL => [0xBE#8]
  | .cpA => [0xBF#8]
  | .retNZ => [0xC0#8]
  | .popBC => [0xC1#8]
  | .jpNZ a16 => [0xC2#8, lowByte a16, highByte a16]
  | .jp a16 => [0xC3#8, lowByte a16, highByte a16]
  | .callNZ a16 => [0xC4#8, lowByte a16, highByte a16]
  | .pushBC => [0xC5#8]
  | .addAImm8 d8 => [0xC6#8, d8]
  | .rst00 => [0xC7#8]
  | .retZ => [0xC8#8]
  | .ret => [0xC9#8]
  | .jpZ a16 => [0xCA#8, lowByte a16, highByte a16]
  | .prefixCB => [0xCB#8]
  | .callZ a16 => [0xCC#8, lowByte a16, highByte a16]
  | .call a16 => [0xCD#8, lowByte a16, highByte a16]
  | .adcAImm8 d8 => [0xCE#8, d8]
  | .rst08 => [0xCF#8]
  | .retNC => [0xD0#8]
  | .popDE => [0xD1#8]
  | .jpNC a16 => [0xD2#8, lowByte a16, highByte a16]
  | .illegalD3 => [0xD3#8]
  | .callNC a16 => [0xD4#8, lowByte a16, highByte a16]
  | .pushDE => [0xD5#8]
  | .subImm8 d8 => [0xD6#8, d8]
  | .rst10 => [0xD7#8]
  | .retC => [0xD8#8]
  | .reti => [0xD9#8]
  | .jpC a16 => [0xDA#8, lowByte a16, highByte a16]
  | .illegalDB => [0xDB#8]
  | .callC a16 => [0xDC#8, lowByte a16, highByte a16]
  | .illegalDD => [0xDD#8]
  | .sbcAImm8 d8 => [0xDE#8, d8]
  | .rst18 => [0xDF#8]
  | .ldhIndA8A a8 => [0xE0#8, a8]
  | .popHL => [0xE1#8]
  | .ldIndCA => [0xE2#8]
  | .illegalE3 => [0xE3#8]
  | .illegalE4 => [0xE4#8]
  | .pushHL => [0xE5#8]
  | .andImm8 d8 => [0xE6#8, d8]
  | .rst20 => [0xE7#8]
  | .addSPe8 e8 => [0xE8#8, e8]
  | .jpHL => [0xE9#8]
  | .ldIndA16A a16 => [0xEA#8, lowByte a16, highByte a16]
  | .illegalEB => [0xEB#8]
  | .illegalEC => [0xEC#8]
  | .illegalED => [0xED#8]
  | .xorImm8 d8 => [0xEE#8, d8]
  | .rst28 => [0xEF#8]
  | .ldhAIndA8 a8 => [0xF0#8, a8]
  | .popAF => [0xF1#8]
  | .ldAIndC => [0xF2#8]
  | .di => [0xF3#8]
  | .illegalF4 => [0xF4#8]
  | .pushAF => [0xF5#8]
  | .orImm8 d8 => [0xF6#8, d8]
  | .rst30 => [0xF7#8]
  | .ldHLSPe8 e8 => [0xF8#8, e8]
  | .ldSPHL => [0xF9#8]
  | .ldAIndA16 a16 => [0xFA#8, lowByte a16, highByte a16]
  | .ei => [0xFB#8]
  | .illegalFC => [0xFC#8]
  | .illegalFD => [0xFD#8]
  | .cpImm8 d8 => [0xFE#8, d8]
  | .rst38 => [0xFF#8]
  | .rlcB => [0xCB#8, 0x00#8]
  | .rlcC => [0xCB#8, 0x01#8]
  | .rlcD => [0xCB#8, 0x02#8]
  | .rlcE => [0xCB#8, 0x03#8]
  | .rlcH => [0xCB#8, 0x04#8]
  | .rlcL => [0xCB#8, 0x05#8]
  | .rlcIndHL => [0xCB#8, 0x06#8]
  | .rlcA => [0xCB#8, 0x07#8]
  | .rrcB => [0xCB#8, 0x08#8]
  | .rrcC => [0xCB#8, 0x09#8]
  | .rrcD => [0xCB#8, 0x0A#8]
  | .rrcE => [0xCB#8, 0x0B#8]
  | .rrcH => [0xCB#8, 0x0C#8]
  | .rrcL => [0xCB#8, 0x0D#8]
  | .rrcIndHL => [0xCB#8, 0x0E#8]
  | .rrcA => [0xCB#8, 0x0F#8]
  | .rlB => [0xCB#8, 0x10#8]
  | .rlC => [0xCB#8, 0x11#8]
  | .rlD => [0xCB#8, 0x12#8]
  | .rlE => [0xCB#8, 0x13#8]
  | .rlH => [0xCB#8, 0x14#8]
  | .rlL => [0xCB#8, 0x15#8]
  | .rlIndHL => [0xCB#8, 0x16#8]
  | .rlA => [0xCB#8, 0x17#8]
  | .rrB => [0xCB#8, 0x18#8]
  | .rrC => [0xCB#8, 0x19#8]
  | .rrD => [0xCB#8, 0x1A#8]
  | .rrE => [0xCB#8, 0x1B#8]
  | .rrH => [0xCB#8, 0x1C#8]
  | .rrL => [0xCB#8, 0x1D#8]
  | .rrIndHL => [0xCB#8, 0x1E#8]
  | .rrA => [0xCB#8, 0x1F#8]
  | .slaB => [0xCB#8, 0x20#8]
  | .slaC => [0xCB#8, 0x21#8]
  | .slaD => [0xCB#8, 0x22#8]
  | .slaE => [0xCB#8, 0x23#8]
  | .slaH => [0xCB#8, 0x24#8]
  | .slaL => [0xCB#8, 0x25#8]
  | .slaIndHL => [0xCB#8, 0x26#8]
  | .slaA => [0xCB#8, 0x27#8]
  | .sraB => [0xCB#8, 0x28#8]
  | .sraC => [0xCB#8, 0x29#8]
  | .sraD => [0xCB#8, 0x2A#8]
  | .sraE => [0xCB#8, 0x2B#8]
  | .sraH => [0xCB#8, 0x2C#8]
  | .sraL => [0xCB#8, 0x2D#8]
  | .sraIndHL => [0xCB#8, 0x2E#8]
  | .sraA => [0xCB#8, 0x2F#8]
  | .swapB => [0xCB#8, 0x30#8]
  | .swapC => [0xCB#8, 0x31#8]
  | .swapD => [0xCB#8, 0x32#8]
  | .swapE => [0xCB#8, 0x33#8]
  | .swapH => [0xCB#8, 0x34#8]
  | .swapL => [0xCB#8, 0x35#8]
  | .swapIndHL => [0xCB#8, 0x36#8]
  | .swapA => [0xCB#8, 0x37#8]
  | .srlB => [0xCB#8, 0x38#8]
  | .srlC => [0xCB#8, 0x39#8]
  | .srlD => [0xCB#8, 0x3A#8]
  | .srlE => [0xCB#8, 0x3B#8]
  | .srlH => [0xCB#8, 0x3C#8]
  | .srlL => [0xCB#8, 0x3D#8]
  | .srlIndHL => [0xCB#8, 0x3E#8]
  | .srlA => [0xCB#8, 0x3F#8]
  | .bit0B => [0xCB#8, 0x40#8]
  | .bit0C => [0xCB#8, 0x41#8]
  | .bit0D => [0xCB#8, 0x42#8]
  | .bit0E => [0xCB#8, 0x43#8]
  | .bit0H => [0xCB#8, 0x44#8]
  | .bit0L => [0xCB#8, 0x45#8]
  | .bit0IndHL => [0xCB#8, 0x46#8]
  | .bit0A => [0xCB#8, 0x47#8]
  | .bit1B => [0xCB#8, 0x48#8]
  | .bit1C => [0xCB#8, 0x49#8]
  | .bit1D => [0xCB#8, 0x4A#8]
  | .bit1E => [0xCB#8, 0x4B#8]
  | .bit1H => [0xCB#8, 0x4C#8]
  | .bit1L => [0xCB#8, 0x4D#8]
  | .bit1IndHL => [0xCB#8, 0x4E#8]
  | .bit1A => [0xCB#8, 0x4F#8]
  | .bit2B => [0xCB#8, 0x50#8]
  | .bit2C => [0xCB#8, 0x51#8]
  | .bit2D => [0xCB#8, 0x52#8]
  | .bit2E => [0xCB#8, 0x53#8]
  | .bit2H => [0xCB#8, 0x54#8]
  | .bit2L => [0xCB#8, 0x55#8]
  | .bit2IndHL => [0xCB#8, 0x56#8]
  | .bit2A => [0xCB#8, 0x57#8]
  | .bit3B => [0xCB#8, 0x58#8]
  | .bit3C => [0xCB#8, 0x59#8]
  | .bit3D => [0xCB#8, 0x5A#8]
  | .bit3E => [0xCB#8, 0x5B#8]
  | .bit3H => [0xCB#8, 0x5C#8]
  | .bit3L => [0xCB#8, 0x5D#8]
  | .bit3IndHL => [0xCB#8, 0x5E#8]
  | .bit3A => [0xCB#8, 0x5F#8]
  | .bit4B => [0xCB#8, 0x60#8]
  | .bit4C => [0xCB#8, 0x61#8]
  | .bit4D => [0xCB#8, 0x62#8]
  | .bit4E => [0xCB#8, 0x63#8]
  | .bit4H => [0xCB#8, 0x64#8]
  | .bit4L => [0xCB#8, 0x65#8]
  | .bit4IndHL => [0xCB#8, 0x66#8]
  | .bit4A => [0xCB#8, 0x67#8]
  | .bit5B => [0xCB#8, 0x68#8]
  | .bit5C => [0xCB#8, 0x69#8]
  | .bit5D => [0xCB#8, 0x6A#8]
  | .bit5E => [0xCB#8, 0x6B#8]
  | .bit5H => [0xCB#8, 0x6C#8]
  | .bit5L => [0xCB#8, 0x6D#8]
  | .bit5IndHL => [0xCB#8, 0x6E#8]
  | .bit5A => [0xCB#8, 0x6F#8]
  | .bit6B => [0xCB#8, 0x70#8]
  | .bit6C => [0xCB#8, 0x71#8]
  | .bit6D => [0xCB#8, 0x72#8]
  | .bit6E => [0xCB#8, 0x73#8]
  | .bit6H => [0xCB#8, 0x74#8]
  | .bit6L => [0xCB#8, 0x75#8]
  | .bit6IndHL => [0xCB#8, 0x76#8]
  | .bit6A => [0xCB#8, 0x77#8]
  | .bit7B => [0xCB#8, 0x78#8]
  | .bit7C => [0xCB#8, 0x79#8]
  | .bit7D => [0xCB#8, 0x7A#8]
  | .bit7E => [0xCB#8, 0x7B#8]
  | .bit7H => [0xCB#8, 0x7C#8]
  | .bit7L => [0xCB#8, 0x7D#8]
  | .bit7IndHL => [0xCB#8, 0x7E#8]
  | .bit7A => [0xCB#8, 0x7F#8]
  | .res0B => [0xCB#8, 0x80#8]
  | .res0C => [0xCB#8, 0x81#8]
  | .res0D => [0xCB#8, 0x82#8]
  | .res0E => [0xCB#8, 0x83#8]
  | .res0H => [0xCB#8, 0x84#8]
  | .res0L => [0xCB#8, 0x85#8]
  | .res0IndHL => [0xCB#8, 0x86#8]
  | .res0A => [0xCB#8, 0x87#8]
  | .res1B => [0xCB#8, 0x88#8]
  | .res1C => [0xCB#8, 0x89#8]
  | .res1D => [0xCB#8, 0x8A#8]
  | .res1E => [0xCB#8, 0x8B#8]
  | .res1H => [0xCB#8, 0x8C#8]
  | .res1L => [0xCB#8, 0x8D#8]
  | .res1IndHL => [0xCB#8, 0x8E#8]
  | .res1A => [0xCB#8, 0x8F#8]
  | .res2B => [0xCB#8, 0x90#8]
  | .res2C => [0xCB#8, 0x91#8]
  | .res2D => [0xCB#8, 0x92#8]
  | .res2E => [0xCB#8, 0x93#8]
  | .res2H => [0xCB#8, 0x94#8]
  | .res2L => [0xCB#8, 0x95#8]
  | .res2IndHL => [0xCB#8, 0x96#8]
  | .res2A => [0xCB#8, 0x97#8]
  | .res3B => [0xCB#8, 0x98#8]
  | .res3C => [0xCB#8, 0x99#8]
  | .res3D => [0xCB#8, 0x9A#8]
  | .res3E => [0xCB#8, 0x9B#8]
  | .res3H => [0xCB#8, 0x9C#8]
  | .res3L => [0xCB#8, 0x9D#8]
  | .res3IndHL => [0xCB#8, 0x9E#8]
  | .res3A => [0xCB#8, 0x9F#8]
  | .res4B => [0xCB#8, 0xA0#8]
  | .res4C => [0xCB#8, 0xA1#8]
  | .res4D => [0xCB#8, 0xA2#8]
  | .res4E => [0xCB#8, 0xA3#8]
  | .res4H => [0xCB#8, 0xA4#8]
  | .res4L => [0xCB#8, 0xA5#8]
  | .res4IndHL => [0xCB#8, 0xA6#8]
  | .res4A => [0xCB#8, 0xA7#8]
  | .res5B => [0xCB#8, 0xA8#8]
  | .res5C => [0xCB#8, 0xA9#8]
  | .res5D => [0xCB#8, 0xAA#8]
  | .res5E => [0xCB#8, 0xAB#8]
  | .res5H => [0xCB#8, 0xAC#8]
  | .res5L => [0xCB#8, 0xAD#8]
  | .res5IndHL => [0xCB#8, 0xAE#8]
  | .res5A => [0xCB#8, 0xAF#8]
  | .res6B => [0xCB#8, 0xB0#8]
  | .res6C => [0xCB#8, 0xB1#8]
  | .res6D => [0xCB#8, 0xB2#8]
  | .res6E => [0xCB#8, 0xB3#8]
  | .res6H => [0xCB#8, 0xB4#8]
  | .res6L => [0xCB#8, 0xB5#8]
  | .res6IndHL => [0xCB#8, 0xB6#8]
  | .res6A => [0xCB#8, 0xB7#8]
  | .res7B => [0xCB#8, 0xB8#8]
  | .res7C => [0xCB#8, 0xB9#8]
  | .res7D => [0xCB#8, 0xBA#8]
  | .res7E => [0xCB#8, 0xBB#8]
  | .res7H => [0xCB#8, 0xBC#8]
  | .res7L => [0xCB#8, 0xBD#8]
  | .res7IndHL => [0xCB#8, 0xBE#8]
  | .res7A => [0xCB#8, 0xBF#8]
  | .set0B => [0xCB#8, 0xC0#8]
  | .set0C => [0xCB#8, 0xC1#8]
  | .set0D => [0xCB#8, 0xC2#8]
  | .set0E => [0xCB#8, 0xC3#8]
  | .set0H => [0xCB#8, 0xC4#8]
  | .set0L => [0xCB#8, 0xC5#8]
  | .set0IndHL => [0xCB#8, 0xC6#8]
  | .set0A => [0xCB#8, 0xC7#8]
  | .set1B => [0xCB#8, 0xC8#8]
  | .set1C => [0xCB#8, 0xC9#8]
  | .set1D => [0xCB#8, 0xCA#8]
  | .set1E => [0xCB#8, 0xCB#8]
  | .set1H => [0xCB#8, 0xCC#8]
  | .set1L => [0xCB#8, 0xCD#8]
  | .set1IndHL => [0xCB#8, 0xCE#8]
  | .set1A => [0xCB#8, 0xCF#8]
  | .set2B => [0xCB#8, 0xD0#8]
  | .set2C => [0xCB#8, 0xD1#8]
  | .set2D => [0xCB#8, 0xD2#8]
  | .set2E => [0xCB#8, 0xD3#8]
  | .set2H => [0xCB#8, 0xD4#8]
  | .set2L => [0xCB#8, 0xD5#8]
  | .set2IndHL => [0xCB#8, 0xD6#8]
  | .set2A => [0xCB#8, 0xD7#8]
  | .set3B => [0xCB#8, 0xD8#8]
  | .set3C => [0xCB#8, 0xD9#8]
  | .set3D => [0xCB#8, 0xDA#8]
  | .set3E => [0xCB#8, 0xDB#8]
  | .set3H => [0xCB#8, 0xDC#8]
  | .set3L => [0xCB#8, 0xDD#8]
  | .set3IndHL => [0xCB#8, 0xDE#8]
  | .set3A => [0xCB#8, 0xDF#8]
  | .set4B => [0xCB#8, 0xE0#8]
  | .set4C => [0xCB#8, 0xE1#8]
  | .set4D => [0xCB#8, 0xE2#8]
  | .set4E => [0xCB#8, 0xE3#8]
  | .set4H => [0xCB#8, 0xE4#8]
  | .set4L => [0xCB#8, 0xE5#8]
  | .set4IndHL => [0xCB#8, 0xE6#8]
  | .set4A => [0xCB#8, 0xE7#8]
  | .set5B => [0xCB#8, 0xE8#8]
  | .set5C => [0xCB#8, 0xE9#8]
  | .set5D => [0xCB#8, 0xEA#8]
  | .set5E => [0xCB#8, 0xEB#8]
  | .set5H => [0xCB#8, 0xEC#8]
  | .set5L => [0xCB#8, 0xED#8]
  | .set5IndHL => [0xCB#8, 0xEE#8]
  | .set5A => [0xCB#8, 0xEF#8]
  | .set6B => [0xCB#8, 0xF0#8]
  | .set6C => [0xCB#8, 0xF1#8]
  | .set6D => [0xCB#8, 0xF2#8]
  | .set6E => [0xCB#8, 0xF3#8]
  | .set6H => [0xCB#8, 0xF4#8]
  | .set6L => [0xCB#8, 0xF5#8]
  | .set6IndHL => [0xCB#8, 0xF6#8]
  | .set6A => [0xCB#8, 0xF7#8]
  | .set7B => [0xCB#8, 0xF8#8]
  | .set7C => [0xCB#8, 0xF9#8]
  | .set7D => [0xCB#8, 0xFA#8]
  | .set7E => [0xCB#8, 0xFB#8]
  | .set7H => [0xCB#8, 0xFC#8]
  | .set7L => [0xCB#8, 0xFD#8]
  | .set7IndHL => [0xCB#8, 0xFE#8]
  | .set7A => [0xCB#8, 0xFF#8]

end Sys2Proof
end

