-- ==== Sys2Proof/Machine/State.lean ====
section
/-! DEFINITION. The machine's state as plain data: the registers of 10_state.md R30, the memory of
20_memory.md R70, and two fields of the model's own (log entries 2 and 5). -/

namespace Sys2Proof.Machine

/-- No step of this machine stops with a fault. R600: the one exception is `IllegalOpcode`, which hands
an outcome to the driver with a state the spec describes, so the model takes it as a next state whose
`result` is `illegal` (log entry 1); R71: memory accesses have "no failure modes". The type is closed and
has no constructor. -/
inductive Fault
  deriving DecidableEq, Repr

/-- The reasons exec may refuse an instruction. -/
inductive Refusal where
  /-- Raised only by an arm of exec whose instruction has no meaning yet; no arm of this model is left so.
  Safe: the machine stops where the hardware goes on. -/
  | notModelled (mnemonic : String)
  deriving DecidableEq, Repr

/-- What a step hands back at the step port (R42): `ok(cycles)` or `illegal(opcode)`; `noStep` before the
first step (log entry 5). -/
inductive StepResult where
  | noStep
  | ok (cycles : Nat)
  | illegal (opcode : Byte)
  deriving DecidableEq, Repr

/-- The memory: (address, byte) cells in one canonical form (see `Memory.wf`). -/
abbrev Memory := List Host.Cell

/-- The cells have strictly rising addresses, all at least `low`, inside the address space, and none
equals what an unlisted address reads as. -/
def Memory.wfFrom (low : Nat) : Memory → Bool
  | [] => true
  | cell :: rest =>
    decide (low ≤ cell.1) && decide (cell.1 < Config.memSize) && decide (cell.2 ≠ Config.unlistedByte)
      && Memory.wfFrom (cell.1 + 1) rest

/-- The canonical form of a memory (R70: addresses 0 to 0xFFFF). -/
def Memory.wf (m : Memory) : Bool := Memory.wfFrom 0 m

/-- Everything the spec gives the machine (R30, R40), the memory it holds a reference to (R43), and the
model's own two fields. -/
structure State where
  /-- accumulator -/
  a : Byte
  /-- flags byte: Z N H C in bits 7..4 (R34) -/
  f : Byte
  b : Byte
  c : Byte
  d : Byte
  e : Byte
  h : Byte
  l : Byte
  /-- stack pointer (R37) -/
  sp : Word
  /-- program counter (R38) -/
  pc : Word
  /-- the 64 KiB array (R70) -/
  mem : Memory
  /-- the launch parameter `ILLEGAL_OPCODE_MODE` (R6); no step writes it -/
  illegalMode : IllegalOpcodeMode
  /-- what the most recent step returned (R42); no step reads it -/
  result : StepResult
  deriving DecidableEq, Repr

/-- What a step or a meaning answers. -/
abbrev Answer := Host.Outcome State Fault Refusal

/-- `create(memory)` (R46, R700): every register 0, the memory the caller passed, under the launch
parameter `ILLEGAL_OPCODE_MODE`. -/
def State.create (mode : IllegalOpcodeMode) (mem0 : Memory) : State where
  a := 0
  f := 0
  b := 0
  c := 0
  d := 0
  e := 0
  h := 0
  l := 0
  sp := 0
  pc := 0
  mem := mem0
  illegalMode := mode
  result := .noStep

/-- The machine right after reset: `create` with the default mode and a memory that lists nothing
(log entries 2 and 4). -/
def State.reset : State := State.create .fault []

end Sys2Proof.Machine
end

