-- ==== Sys2Proof/Machine/Ops.lean ====
section
/-! DEFINITION. The named operations over memory and registers: memory accesses, the pair views, the
flags byte, the stack, the end of an instruction, and taking the one exception the core has. -/

namespace Sys2Proof.Machine

/-! ## Memory -/

/-- The byte a list of cells holds for an address. -/
def Memory.lookup : Memory → Nat → Byte
  | [], _ => Config.unlistedByte
  | cell :: rest, k => if cell.1 = k then cell.2 else Memory.lookup rest k

/-- Put a cell in its place. -/
def Memory.insertCell (k : Nat) (v : Byte) : Memory → Memory
  | [] => [(k, v)]
  | cell :: rest => if k < cell.1 then (k, v) :: cell :: rest else cell :: Memory.insertCell k v rest

/-- Take out every cell of an address. -/
def Memory.removeCell (k : Nat) : Memory → Memory
  | [] => []
  | cell :: rest => if cell.1 = k then Memory.removeCell k rest else cell :: Memory.removeCell k rest

/-- `MemRead(addr, 1)` (R73); total (R71). -/
def Memory.read (m : Memory) (addr : Word) : Byte := Memory.lookup m addr.toNat

/-- `MemWrite(addr, 1, v)` (R73); total (R71). The canonical form is kept: writing what an unlisted
address reads as takes the cell out. -/
def Memory.write (m : Memory) (addr : Word) (v : Byte) : Memory :=
  if v = Config.unlistedByte then Memory.removeCell addr.toNat m
  else Memory.insertCell addr.toNat v (Memory.removeCell addr.toNat m)

/-- `MemRead(addr, 1)` of the state's memory. -/
def State.readByte (s : State) (addr : Word) : Byte := Memory.read s.mem addr

/-- `MemWrite(addr, 1, v)` of the state's memory. -/
def State.writeByte (s : State) (addr : Word) (v : Byte) : State := { s with mem := Memory.write s.mem addr v }

/-- `MemRead(addr, 2)` (R75): little-endian, the second byte at `addr +16 1`. -/
def State.readWord (s : State) (addr : Word) : Word := joinBytes (s.readByte (addr + 1)) (s.readByte addr)

/-- `MemWrite(addr, 2, v)` (R75): the low byte at `addr`, then the high byte at `addr +16 1`. -/
def State.writeWord (s : State) (addr : Word) (v : Word) : State :=
  (s.writeByte addr (lowByte v)).writeByte (addr + 1) (highByte v)

/-! ## The flags byte (R34, R35) -/

/-- Reading F: bits 3..0 always read 0 (R35). -/
def State.readF (s : State) : Byte := s.f &&& 0xF0#8

/-- Writing F from a whole byte stores `v & 0xF0` (R35, D2). -/
def State.writeF (s : State) (v : Byte) : State := { s with f := v &&& 0xF0#8 }

/-- FZ, bit 7 of F (R34). -/
def State.flagZ (s : State) : Bool := s.f.getLsbD 7

/-- FN, bit 6 of F (R34). -/
def State.flagN (s : State) : Bool := s.f.getLsbD 6

/-- FH, bit 5 of F (R34). -/
def State.flagH (s : State) : Bool := s.f.getLsbD 5

/-- FC, bit 4 of F (R34). -/
def State.flagC (s : State) : Bool := s.f.getLsbD 4

/-- The byte that holds four flags, Z N H C from bit 7 down, and 0 in bits 3..0 (R34, R35). -/
def packFlags (z n h c : Bool) : Byte :=
  BitVec.ofBool z ++ BitVec.ofBool n ++ BitVec.ofBool h ++ BitVec.ofBool c ++ 0#4

/-- Write the four flag bits; an instruction that leaves a flag unchanged passes its old value. -/
def State.setFlags (s : State) (z n h c : Bool) : State := { s with f := packFlags z n h c }

/-! ## Pair views (R32, R33) -/

/-- AF = A:F. -/
def State.af (s : State) : Word := joinBytes s.a s.readF

/-- BC = B:C. -/
def State.bc (s : State) : Word := joinBytes s.b s.c

/-- DE = D:E. -/
def State.de (s : State) : Word := joinBytes s.d s.e

/-- HL = H:L. -/
def State.hl (s : State) : Word := joinBytes s.h s.l

/-- AF <- v: A is the high byte, F the low byte with its low nibble dropped (R33). -/
def State.setAF (s : State) (v : Word) : State := { s.writeF (lowByte v) with a := highByte v }

/-- BC <- v (R33). -/
def State.setBC (s : State) (v : Word) : State := { s with b := highByte v, c := lowByte v }

/-- DE <- v (R33). -/
def State.setDE (s : State) (v : Word) : State := { s with d := highByte v, e := lowByte v }

/-- HL <- v (R33). -/
def State.setHL (s : State) (v : Word) : State := { s with h := highByte v, l := lowByte v }

/-! ## The stack (46_control.md R450, R451) -/

/-- `Push16(v)` (R450): the high byte first at SP-1, then the low byte at SP-2; SP wraps. -/
def push16 (v : Word) (s : State) : State :=
  let s1 := { s with sp := s.sp - 1 }
  let s2 := s1.writeByte s1.sp (highByte v)
  let s3 := { s2 with sp := s2.sp - 1 }
  s3.writeByte s3.sp (lowByte v)

/-- `Pop16()` (R451): the low byte from SP, then the high byte from SP+1; SP wraps. The popped word and
the state after it. -/
def pop16 (s : State) : Word × State :=
  let lo := s.readByte s.sp
  let s1 := { s with sp := s.sp + 1 }
  let hi := s1.readByte s1.sp
  (joinBytes hi lo, { s1 with sp := s1.sp + 1 })

/-! ## The end of a step (R42) -/

/-- The instruction is done and the step returns `ok(cycles)` (R42, R127). -/
def finish (cycles : Nat) (s : State) : Answer := .next { s with result := .ok cycles }

/-! ## Taking the exception `IllegalOpcode` (47_misc.md R509; 60_exceptions.md R600, R601, R605)

The core vectors nowhere and saves nothing: the step returns `illegal(op)` to the driver, who may step
again. There is no return from an exception (R606); RETI is an ordinary return (R461). -/

/-- What an illegal opcode does in each value of `ILLEGAL_OPCODE_MODE` (R509), from a state whose PC is
past the opcode byte (R125). -/
def takeIllegalOpcode (op : Byte) (s : State) : Answer :=
  match s.illegalMode with
  | .fault => .next { s with result := .illegal op }
  | .nop => finish Config.illegalOpcodeCycles s
  | .hang => .next { s with pc := s.pc - 1, result := .illegal op }

end Sys2Proof.Machine
end

