-- ==== Sys2Proof/Machine/Flags.lean ====
section
/-! DEFINITION. The arithmetic of the ALU with the flags it computes: `Add8`, `Sub8`, the logic
operations, INC and DEC, `ADD HL,rr`, `SPPlusE8`, DAA, and `Rot`. Sums are taken exactly and narrowed at
the end, as 00_scope.md R9 writes them. -/

namespace Sys2Proof.Machine

/-- Four flag values, in the order of R11. -/
structure Flags where
  z : Bool
  n : Bool
  h : Bool
  c : Bool
  deriving DecidableEq, Repr

/-- Write all four flags. -/
def State.putFlags (s : State) (fl : Flags) : State := s.setFlags fl.z fl.n fl.h fl.c

/-- `Add8(a, b, cin)` (41_alu8.md R200). -/
def add8 (a b : Byte) (cin : Bool) : Byte × Flags :=
  let sum := a.toNat + b.toNat + cin.toNat
  (BitVec.ofNat 8 sum,
    { z := decide (sum % 256 = 0)
      n := false
      h := decide (a.toNat % 16 + b.toNat % 16 + cin.toNat > 0xF)
      c := decide (sum > 0xFF) })

/-- `Sub8(a, b, cin)` (R201). -/
def sub8 (a b : Byte) (cin : Bool) : Byte × Flags :=
  let diff : Int := (a.toNat : Int) - (b.toNat : Int) - (cin.toNat : Int)
  (BitVec.ofInt 8 diff,
    { z := decide (diff % 256 = 0)
      n := true
      h := decide (a.toNat % 16 < b.toNat % 16 + cin.toNat)
      c := decide (a.toNat < b.toNat + cin.toNat) })

/-- The result of AND, XOR or OR with its flags `Z 0 h 0` (R214 to R222). -/
def logic8 (r : Byte) (h : Bool) : Byte × Flags := (r, { z := decide (r = 0), n := false, h := h, c := false })

/-- What each ALU operation leaves in A, and its flags (R202 to R225). CP keeps A (R223). -/
def alu8 (op : AluOp) (a v : Byte) (carry : Bool) : Byte × Flags :=
  match op with
  | .add => add8 a v false
  | .adc => add8 a v carry
  | .sub => sub8 a v false
  | .sbc => sub8 a v carry
  | .and => logic8 (a &&& v) true
  | .xor => logic8 (a ^^^ v) false
  | .or => logic8 (a ||| v) false
  | .cp => (a, (sub8 a v false).2)

/-- INC of a byte (R226, R227): the new byte and `Z 0 H -`. -/
def inc8 (old : Byte) (carry : Bool) : Byte × Flags :=
  (old + 1, { z := decide (old + 1 = 0), n := false, h := decide (old.toNat % 16 = 0xF), c := carry })

/-- DEC of a byte (R228, R229): the new byte and `Z 1 H -`. -/
def dec8 (old : Byte) (carry : Bool) : Byte × Flags :=
  (old - 1, { z := decide (old - 1 = 0), n := true, h := decide (old.toNat % 16 = 0), c := carry })

/-- The 16-bit addition of `ADD HL,rr` (42_alu16.md R250): `- 0 H C`, H from bit 11 and C from bit 15. -/
def add16 (a b : Word) (z : Bool) : Word × Flags :=
  let sum := a.toNat + b.toNat
  (BitVec.ofNat 16 sum,
    { z := z
      n := false
      h := decide (a.toNat % 0x1000 + b.toNat % 0x1000 > 0x0FFF)
      c := decide (sum > 0xFFFF) })

/-- `SPPlusE8(n)` (45_load_store.md R422): the signed sum, with `0 0 H C` from the unsigned addition of
SP's low byte and the raw immediate. -/
def spPlusE8 (sp : Word) (n : Byte) : Word × Flags :=
  (sp + n.signExtend 16,
    { z := false
      n := false
      h := decide (sp.toNat % 16 + n.toNat % 16 > 0x0F)
      c := decide (sp.toNat % 256 + n.toNat > 0xFF) })

/-- What DAA adds after an addition: 0x06 for the low digit, 0x60 for the high digit (R230). -/
def daaAddAdjust (a : Byte) (h c : Bool) : Byte :=
  (if h || decide (a.toNat % 16 > 0x9) then 0x06#8 else 0x00#8)
    ||| (if c || decide (a.toNat > 0x99) then 0x60#8 else 0x00#8)

/-- What DAA subtracts after a subtraction (R230). -/
def daaSubAdjust (h c : Bool) : Byte := (if h then 0x06#8 else 0x00#8) ||| (if c then 0x60#8 else 0x00#8)

/-- DAA (R230): the adjusted accumulator and `Z - 0 C`. -/
def daa8 (a : Byte) (n h c : Bool) : Byte × Flags :=
  if n then
    let r := a - daaSubAdjust h c
    (r, { z := decide (r = 0), n := true, h := false, c := c })
  else
    let r := a + daaAddAdjust a h c
    (r, { z := decide (r = 0), n := false, h := false, c := c || decide (a.toNat > 0x99) })

/-- A bit as a byte, 0 or 1. -/
def bitByte (b : Bool) : Byte := (BitVec.ofBool b).setWidth 8

/-- `Rot(op, v)` (43_rotate_shift.md R304): the result byte and the carry out; `cin` is FC. -/
def rot (op : RotOp) (v : Byte) (cin : Bool) : Byte × Bool :=
  match op with
  | .rlc => ((v <<< 1) ||| bitByte (v.getLsbD 7), v.getLsbD 7)
  | .rrc => ((v >>> 1) ||| (bitByte (v.getLsbD 0) <<< 7), v.getLsbD 0)
  | .rl => ((v <<< 1) ||| bitByte cin, v.getLsbD 7)
  | .rr => ((v >>> 1) ||| (bitByte cin <<< 7), v.getLsbD 0)
  | .sla => (v <<< 1, v.getLsbD 7)
  | .sra => ((v >>> 1) ||| (v &&& 0x80#8), v.getLsbD 0)
  | .swap => (((v &&& 0x0F#8) <<< 4) ||| (v >>> 4), false)
  | .srl => (v >>> 1, v.getLsbD 0)

end Sys2Proof.Machine
end

