-- ==== Sys2Proof/Machine/Operands.lean ====
section
/-! DEFINITION. Every operand form of 30_encoding.md §2 and §3: the selectors r, rr, qq, mem and cc, the
bit index and the restart target, and the immediates. -/

namespace Sys2Proof.Machine

/-- `r8[r]` read (R103); HL is read at the time of the access. -/
def readOperand (r : Operand8) (s : State) : Byte :=
  match r with
  | .b => s.b
  | .c => s.c
  | .d => s.d
  | .e => s.e
  | .h => s.h
  | .l => s.l
  | .indHL => s.readByte s.hl
  | .a => s.a

/-- `r8[r] <- v` (R103). -/
def writeOperand (r : Operand8) (v : Byte) (s : State) : State :=
  match r with
  | .b => { s with b := v }
  | .c => { s with c := v }
  | .d => { s with d := v }
  | .e => { s with e := v }
  | .h => { s with h := v }
  | .l => { s with l := v }
  | .indHL => s.writeByte s.hl v
  | .a => { s with a := v }

/-- The cycle count of an instruction whose figure is `reg` for a register operand and `mem` for (HL). -/
def costBy (r : Operand8) (reg mem : Nat) : Nat :=
  match r with
  | .indHL => mem
  | _ => reg

/-- `r16[p]` read (R104). -/
def readPair (p : Pair) (s : State) : Word :=
  match p with
  | .bc => s.bc
  | .de => s.de
  | .hl => s.hl
  | .sp => s.sp

/-- `r16[p] <- v` (R104), through the pair view (R33). -/
def writePair (p : Pair) (v : Word) (s : State) : State :=
  match p with
  | .bc => s.setBC v
  | .de => s.setDE v
  | .hl => s.setHL v
  | .sp => { s with sp := v }

/-- `r16stk[p]` read (R105). -/
def readStackPair (q : StackPair) (s : State) : Word :=
  match q with
  | .bc => s.bc
  | .de => s.de
  | .hl => s.hl
  | .af => s.af

/-- `r16stk[p] <- v` (R105); AF drops the low nibble (R465). -/
def writeStackPair (q : StackPair) (v : Word) (s : State) : State :=
  match q with
  | .bc => s.setBC v
  | .de => s.setDE v
  | .hl => s.setHL v
  | .af => s.setAF v

/-- `r16mem[p]` (R106): the address, which is the HL of before any change, and the state after the
change. -/
def resolveIndirect (m : Indirect) (s : State) : Word × State :=
  match m with
  | .bc => (s.bc, s)
  | .de => (s.de, s)
  | .hlInc => (s.hl, s.setHL (s.hl + 1))
  | .hlDec => (s.hl, s.setHL (s.hl - 1))

/-- `cond(cc)` (R107). -/
def condHolds (cc : Cond) (s : State) : Bool :=
  match cc with
  | .nz => !s.flagZ
  | .z => s.flagZ
  | .nc => !s.flagC
  | .c => s.flagC

/-- `sext_16(v)` (R9, R115). -/
def signExtend16 (v : Byte) : Word := v.signExtend 16

/-- `0xFF00 + n` (R116): an address of the high page; it never wraps. -/
def highPage (n : Byte) : Word := Config.highPageBase + n.setWidth 16

/-- The bit number of a bit index (R110). -/
def bitNumber (i : BitIndex) : Nat :=
  match i with
  | .b0 => 0
  | .b1 => 1
  | .b2 => 2
  | .b3 => 3
  | .b4 => 4
  | .b5 => 5
  | .b6 => 6
  | .b7 => 7

/-- The restart vector `t = y * 8` (R111). -/
def restartAddress (t : Restart) : Word :=
  match t with
  | .t00 => 0x0000#16
  | .t08 => 0x0008#16
  | .t10 => 0x0010#16
  | .t18 => 0x0018#16
  | .t20 => 0x0020#16
  | .t28 => 0x0028#16
  | .t30 => 0x0030#16
  | .t38 => 0x0038#16

end Sys2Proof.Machine
end

