-- ==== Sys2Proof/Machine/Alu16.lean ====
section
/-! DEFINITION. 16-bit arithmetic (42_alu16.md R250 to R252). -/

namespace Sys2Proof.Machine

/-! ## Shared operations -/

/-- `ADD HL,r16[p]` (R250): Z is kept. -/
def addToHL (p : Pair) (s : State) : Answer :=
  let r := add16 s.hl (readPair p s) s.flagZ
  finish 2 ((s.setHL r.1).putFlags r.2)

/-- `INC r16[p]` (R251): no flag is written. -/
def incPair (p : Pair) (s : State) : Answer := finish 2 (writePair p (readPair p s + 1) s)

/-- `DEC r16[p]` (R252): no flag is written. -/
def decPair (p : Pair) (s : State) : Answer := finish 2 (writePair p (readPair p s - 1) s)

/-! ## The instructions -/

/-- `INC BC` (03): R251. -/
def execIncBC (s : State) : Answer := incPair .bc s

/-- `ADD HL,BC` (09): R250. -/
def execAddHLBC (s : State) : Answer := addToHL .bc s

/-- `DEC BC` (0B): R252. -/
def execDecBC (s : State) : Answer := decPair .bc s

/-- `INC DE` (13): R251. -/
def execIncDE (s : State) : Answer := incPair .de s

/-- `ADD HL,DE` (19): R250. -/
def execAddHLDE (s : State) : Answer := addToHL .de s

/-- `DEC DE` (1B): R252. -/
def execDecDE (s : State) : Answer := decPair .de s

/-- `INC HL` (23): R251. -/
def execIncHL (s : State) : Answer := incPair .hl s

/-- `ADD HL,HL` (29): R250. -/
def execAddHLHL (s : State) : Answer := addToHL .hl s

/-- `DEC HL` (2B): R252. -/
def execDecHL (s : State) : Answer := decPair .hl s

/-- `INC SP` (33): R251. -/
def execIncSP (s : State) : Answer := incPair .sp s

/-- `ADD HL,SP` (39): R250. -/
def execAddHLSP (s : State) : Answer := addToHL .sp s

/-- `DEC SP` (3B): R252. -/
def execDecSP (s : State) : Answer := decPair .sp s

end Sys2Proof.Machine
end

