-- ==== Sys2Proof/Machine/Alu8.lean ====
section
/-! DEFINITION. 8-bit arithmetic and logic (41_alu8.md R200 to R230). -/

namespace Sys2Proof.Machine

/-! ## Shared operations -/

/-- An ALU operation of A with a byte: A and the four flags (R202 to R225). -/
def applyAlu (op : AluOp) (v : Byte) (s : State) : State :=
  let r := alu8 op s.a v s.flagC
  { s with a := r.1 }.putFlags r.2

/-- `ALU A,r8[z]`: 1 cycle for a register, 2 for (HL). -/
def aluOperand (op : AluOp) (r : Operand8) (s : State) : Answer :=
  finish (costBy r 1 2) (applyAlu op (readOperand r s) s)

/-- `ALU A,d8`: 2 cycles. -/
def aluImmediate (op : AluOp) (d8 : Byte) (s : State) : Answer := finish 2 (applyAlu op d8 s)

/-- `INC r8[y]` (R226, R227): 1 cycle for a register, 3 for (HL) (C4). -/
def incOperand (r : Operand8) (s : State) : Answer :=
  let n := inc8 (readOperand r s) s.flagC
  finish (costBy r 1 3) ((writeOperand r n.1 s).putFlags n.2)

/-- `DEC r8[y]` (R228, R229): 1 cycle for a register, 3 for (HL) (C4). -/
def decOperand (r : Operand8) (s : State) : Answer :=
  let n := dec8 (readOperand r s) s.flagC
  finish (costBy r 1 3) ((writeOperand r n.1 s).putFlags n.2)

/-- DAA (R230). -/
def decimalAdjust (s : State) : Answer :=
  let r := daa8 s.a s.flagN s.flagH s.flagC
  finish 1 ({ s with a := r.1 }.putFlags r.2)

/-! ## The instructions -/

/-- `INC B` (04): R226. -/
def execIncB (s : State) : Answer := incOperand .b s

/-- `DEC B` (05): R228. -/
def execDecB (s : State) : Answer := decOperand .b s

/-- `INC C` (0C): R226. -/
def execIncC (s : State) : Answer := incOperand .c s

/-- `DEC C` (0D): R228. -/
def execDecC (s : State) : Answer := decOperand .c s

/-- `INC D` (14): R226. -/
def execIncD (s : State) : Answer := incOperand .d s

/-- `DEC D` (15): R228. -/
def execDecD (s : State) : Answer := decOperand .d s

/-- `INC E` (1C): R226. -/
def execIncE (s : State) : Answer := incOperand .e s

/-- `DEC E` (1D): R228. -/
def execDecE (s : State) : Answer := decOperand .e s

/-- `INC H` (24): R226. -/
def execIncH (s : State) : Answer := incOperand .h s

/-- `DEC H` (25): R228. -/
def execDecH (s : State) : Answer := decOperand .h s

/-- `DAA` (27): R230. -/
def execDaa (s : State) : Answer := decimalAdjust s

/-- `INC L` (2C): R226. -/
def execIncL (s : State) : Answer := incOperand .l s

/-- `DEC L` (2D): R228. -/
def execDecL (s : State) : Answer := decOperand .l s

/-- `INC (HL)` (34): R227. -/
def execIncIndHL (s : State) : Answer := incOperand .indHL s

/-- `DEC (HL)` (35): R229. -/
def execDecIndHL (s : State) : Answer := decOperand .indHL s

/-- `INC A` (3C): R226. -/
def execIncA (s : State) : Answer := incOperand .a s

/-- `DEC A` (3D): R228. -/
def execDecA (s : State) : Answer := decOperand .a s

/-- `ADD A,B` (80): R202. -/
def execAddAB (s : State) : Answer := aluOperand .add .b s

/-- `ADD A,C` (81): R202. -/
def execAddAC (s : State) : Answer := aluOperand .add .c s

/-- `ADD A,D` (82): R202. -/
def execAddAD (s : State) : Answer := aluOperand .add .d s

/-- `ADD A,E` (83): R202. -/
def execAddAE (s : State) : Answer := aluOperand .add .e s

/-- `ADD A,H` (84): R202. -/
def execAddAH (s : State) : Answer := aluOperand .add .h s

/-- `ADD A,L` (85): R202. -/
def execAddAL (s : State) : Answer := aluOperand .add .l s

/-- `ADD A,(HL)` (86): R203. -/
def execAddAIndHL (s : State) : Answer := aluOperand .add .indHL s

/-- `ADD A,A` (87): R202. -/
def execAddAA (s : State) : Answer := aluOperand .add .a s

/-- `ADC A,B` (88): R205. -/
def execAdcAB (s : State) : Answer := aluOperand .adc .b s

/-- `ADC A,C` (89): R205. -/
def execAdcAC (s : State) : Answer := aluOperand .adc .c s

/-- `ADC A,D` (8A): R205. -/
def execAdcAD (s : State) : Answer := aluOperand .adc .d s

/-- `ADC A,E` (8B): R205. -/
def execAdcAE (s : State) : Answer := aluOperand .adc .e s

/-- `ADC A,H` (8C): R205. -/
def execAdcAH (s : State) : Answer := aluOperand .adc .h s

/-- `ADC A,L` (8D): R205. -/
def execAdcAL (s : State) : Answer := aluOperand .adc .l s

/-- `ADC A,(HL)` (8E): R206. -/
def execAdcAIndHL (s : State) : Answer := aluOperand .adc .indHL s

/-- `ADC A,A` (8F): R205. -/
def execAdcAA (s : State) : Answer := aluOperand .adc .a s

/-- `SUB B` (90): R208. -/
def execSubB (s : State) : Answer := aluOperand .sub .b s

/-- `SUB C` (91): R208. -/
def execSubC (s : State) : Answer := aluOperand .sub .c s

/-- `SUB D` (92): R208. -/
def execSubD (s : State) : Answer := aluOperand .sub .d s

/-- `SUB E` (93): R208. -/
def execSubE (s : State) : Answer := aluOperand .sub .e s

/-- `SUB H` (94): R208. -/
def execSubH (s : State) : Answer := aluOperand .sub .h s

/-- `SUB L` (95): R208. -/
def execSubL (s : State) : Answer := aluOperand .sub .l s

/-- `SUB (HL)` (96): R209. -/
def execSubIndHL (s : State) : Answer := aluOperand .sub .indHL s

/-- `SUB A` (97): R208. -/
def execSubA (s : State) : Answer := aluOperand .sub .a s

/-- `SBC A,B` (98): R211. -/
def execSbcAB (s : State) : Answer := aluOperand .sbc .b s

/-- `SBC A,C` (99): R211. -/
def execSbcAC (s : State) : Answer := aluOperand .sbc .c s

/-- `SBC A,D` (9A): R211. -/
def execSbcAD (s : State) : Answer := aluOperand .sbc .d s

/-- `SBC A,E` (9B): R211. -/
def execSbcAE (s : State) : Answer := aluOperand .sbc .e s

/-- `SBC A,H` (9C): R211. -/
def execSbcAH (s : State) : Answer := aluOperand .sbc .h s

/-- `SBC A,L` (9D): R211. -/
def execSbcAL (s : State) : Answer := aluOperand .sbc .l s

/-- `SBC A,(HL)` (9E): R212. -/
def execSbcAIndHL (s : State) : Answer := aluOperand .sbc .indHL s

/-- `SBC A,A` (9F): R211. -/
def execSbcAA (s : State) : Answer := aluOperand .sbc .a s

/-- `AND B` (A0): R214. -/
def execAndB (s : State) : Answer := aluOperand .and .b s

/-- `AND C` (A1): R214. -/
def execAndC (s : State) : Answer := aluOperand .and .c s

/-- `AND D` (A2): R214. -/
def execAndD (s : State) : Answer := aluOperand .and .d s

/-- `AND E` (A3): R214. -/
def execAndE (s : State) : Answer := aluOperand .and .e s

/-- `AND H` (A4): R214. -/
def execAndH (s : State) : Answer := aluOperand .and .h s

/-- `AND L` (A5): R214. -/
def execAndL (s : State) : Answer := aluOperand .and .l s

/-- `AND (HL)` (A6): R215. -/
def execAndIndHL (s : State) : Answer := aluOperand .and .indHL s

/-- `AND A` (A7): R214. -/
def execAndA (s : State) : Answer := aluOperand .and .a s

/-- `XOR B` (A8): R217. -/
def execXorB (s : State) : Answer := aluOperand .xor .b s

/-- `XOR C` (A9): R217. -/
def execXorC (s : State) : Answer := aluOperand .xor .c s

/-- `XOR D` (AA): R217. -/
def execXorD (s : State) : Answer := aluOperand .xor .d s

/-- `XOR E` (AB): R217. -/
def execXorE (s : State) : Answer := aluOperand .xor .e s

/-- `XOR H` (AC): R217. -/
def execXorH (s : State) : Answer := aluOperand .xor .h s

/-- `XOR L` (AD): R217. -/
def execXorL (s : State) : Answer := aluOperand .xor .l s

/-- `XOR (HL)` (AE): R218. -/
def execXorIndHL (s : State) : Answer := aluOperand .xor .indHL s

/-- `XOR A` (AF): R217. -/
def execXorA (s : State) : Answer := aluOperand .xor .a s

/-- `OR B` (B0): R220. -/
def execOrB (s : State) : Answer := aluOperand .or .b s

/-- `OR C` (B1): R220. -/
def execOrC (s : State) : Answer := aluOperand .or .c s

/-- `OR D` (B2): R220. -/
def execOrD (s : State) : Answer := aluOperand .or .d s

/-- `OR E` (B3): R220. -/
def execOrE (s : State) : Answer := aluOperand .or .e s

/-- `OR H` (B4): R220. -/
def execOrH (s : State) : Answer := aluOperand .or .h s

/-- `OR L` (B5): R220. -/
def execOrL (s : State) : Answer := aluOperand .or .l s

/-- `OR (HL)` (B6): R221. -/
def execOrIndHL (s : State) : Answer := aluOperand .or .indHL s

/-- `OR A` (B7): R220. -/
def execOrA (s : State) : Answer := aluOperand .or .a s

/-- `CP B` (B8): R223. -/
def execCpB (s : State) : Answer := aluOperand .cp .b s

/-- `CP C` (B9): R223. -/
def execCpC (s : State) : Answer := aluOperand .cp .c s

/-- `CP D` (BA): R223. -/
def execCpD (s : State) : Answer := aluOperand .cp .d s

/-- `CP E` (BB): R223. -/
def execCpE (s : State) : Answer := aluOperand .cp .e s

/-- `CP H` (BC): R223. -/
def execCpH (s : State) : Answer := aluOperand .cp .h s

/-- `CP L` (BD): R223. -/
def execCpL (s : State) : Answer := aluOperand .cp .l s

/-- `CP (HL)` (BE): R224. -/
def execCpIndHL (s : State) : Answer := aluOperand .cp .indHL s

/-- `CP A` (BF): R223. -/
def execCpA (s : State) : Answer := aluOperand .cp .a s

/-- `ADD A,d8` (C6): R204. -/
def execAddAImm8 (d8 : Byte) (s : State) : Answer := aluImmediate .add d8 s

/-- `ADC A,d8` (CE): R207. -/
def execAdcAImm8 (d8 : Byte) (s : State) : Answer := aluImmediate .adc d8 s

/-- `SUB d8` (D6): R210. -/
def execSubImm8 (d8 : Byte) (s : State) : Answer := aluImmediate .sub d8 s

/-- `SBC A,d8` (DE): R213. -/
def execSbcAImm8 (d8 : Byte) (s : State) : Answer := aluImmediate .sbc d8 s

/-- `AND d8` (E6): R216. -/
def execAndImm8 (d8 : Byte) (s : State) : Answer := aluImmediate .and d8 s

/-- `XOR d8` (EE): R219. -/
def execXorImm8 (d8 : Byte) (s : State) : Answer := aluImmediate .xor d8 s

/-- `OR d8` (F6): R222. -/
def execOrImm8 (d8 : Byte) (s : State) : Answer := aluImmediate .or d8 s

/-- `CP d8` (FE): R225. -/
def execCpImm8 (d8 : Byte) (s : State) : Answer := aluImmediate .cp d8 s

end Sys2Proof.Machine
end

