-- ==== Sys2Proof/Machine/Bit.lean ====
section
/-! DEFINITION. Bit test, reset and set (44_bit.md R350 to R355). -/

namespace Sys2Proof.Machine

/-! ## Shared operations -/

/-- `1 << b` as a byte. -/
def bitMask (i : BitIndex) : Byte := 1#8 <<< bitNumber i

/-- `BIT b,r8[z]` (R350, R351): flags `Z 0 1 -`; nothing else is written; 2 cycles, 3 for (HL). -/
def bitTest (i : BitIndex) (r : Operand8) (s : State) : Answer :=
  finish (costBy r 2 3) (s.setFlags (!(readOperand r s).getLsbD (bitNumber i)) false true s.flagC)

/-- `RES b,r8[z]` (R352, R353): 2 cycles, 4 for (HL). -/
def bitReset (i : BitIndex) (r : Operand8) (s : State) : Answer :=
  finish (costBy r 2 4) (writeOperand r (readOperand r s &&& ~~~bitMask i) s)

/-- `SET b,r8[z]` (R354, R355): 2 cycles, 4 for (HL). -/
def bitSet (i : BitIndex) (r : Operand8) (s : State) : Answer :=
  finish (costBy r 2 4) (writeOperand r (readOperand r s ||| bitMask i) s)

/-! ## The instructions -/

/-- `BIT 0,B` (CB 40): R350. -/
def execBit0B (s : State) : Answer := bitTest .b0 .b s

/-- `BIT 0,C` (CB 41): R350. -/
def execBit0C (s : State) : Answer := bitTest .b0 .c s

/-- `BIT 0,D` (CB 42): R350. -/
def execBit0D (s : State) : Answer := bitTest .b0 .d s

/-- `BIT 0,E` (CB 43): R350. -/
def execBit0E (s : State) : Answer := bitTest .b0 .e s

/-- `BIT 0,H` (CB 44): R350. -/
def execBit0H (s : State) : Answer := bitTest .b0 .h s

/-- `BIT 0,L` (CB 45): R350. -/
def execBit0L (s : State) : Answer := bitTest .b0 .l s

/-- `BIT 0,(HL)` (CB 46): R351. -/
def execBit0IndHL (s : State) : Answer := bitTest .b0 .indHL s

/-- `BIT 0,A` (CB 47): R350. -/
def execBit0A (s : State) : Answer := bitTest .b0 .a s

/-- `BIT 1,B` (CB 48): R350. -/
def execBit1B (s : State) : Answer := bitTest .b1 .b s

/-- `BIT 1,C` (CB 49): R350. -/
def execBit1C (s : State) : Answer := bitTest .b1 .c s

/-- `BIT 1,D` (CB 4A): R350. -/
def execBit1D (s : State) : Answer := bitTest .b1 .d s

/-- `BIT 1,E` (CB 4B): R350. -/
def execBit1E (s : State) : Answer := bitTest .b1 .e s

/-- `BIT 1,H` (CB 4C): R350. -/
def execBit1H (s : State) : Answer := bitTest .b1 .h s

/-- `BIT 1,L` (CB 4D): R350. -/
def execBit1L (s : State) : Answer := bitTest .b1 .l s

/-- `BIT 1,(HL)` (CB 4E): R351. -/
def execBit1IndHL (s : State) : Answer := bitTest .b1 .indHL s

/-- `BIT 1,A` (CB 4F): R350. -/
def execBit1A (s : State) : Answer := bitTest .b1 .a s

/-- `BIT 2,B` (CB 50): R350. -/
def execBit2B (s : State) : Answer := bitTest .b2 .b s

/-- `BIT 2,C` (CB 51): R350. -/
def execBit2C (s : State) : Answer := bitTest .b2 .c s

/-- `BIT 2,D` (CB 52): R350. -/
def execBit2D (s : State) : Answer := bitTest .b2 .d s

/-- `BIT 2,E` (CB 53): R350. -/
def execBit2E (s : State) : Answer := bitTest .b2 .e s

/-- `BIT 2,H` (CB 54): R350. -/
def execBit2H (s : State) : Answer := bitTest .b2 .h s

/-- `BIT 2,L` (CB 55): R350. -/
def execBit2L (s : State) : Answer := bitTest .b2 .l s

/-- `BIT 2,(HL)` (CB 56): R351. -/
def execBit2IndHL (s : State) : Answer := bitTest .b2 .indHL s

/-- `BIT 2,A` (CB 57): R350. -/
def execBit2A (s : State) : Answer := bitTest .b2 .a s

/-- `BIT 3,B` (CB 58): R350. -/
def execBit3B (s : State) : Answer := bitTest .b3 .b s

/-- `BIT 3,C` (CB 59): R350. -/
def execBit3C (s : State) : Answer := bitTest .b3 .c s

/-- `BIT 3,D` (CB 5A): R350. -/
def execBit3D (s : State) : Answer := bitTest .b3 .d s

/-- `BIT 3,E` (CB 5B): R350. -/
def execBit3E (s : State) : Answer := bitTest .b3 .e s

/-- `BIT 3,H` (CB 5C): R350. -/
def execBit3H (s : State) : Answer := bitTest .b3 .h s

/-- `BIT 3,L` (CB 5D): R350. -/
def execBit3L (s : State) : Answer := bitTest .b3 .l s

/-- `BIT 3,(HL)` (CB 5E): R351. -/
def execBit3IndHL (s : State) : Answer := bitTest .b3 .indHL s

/-- `BIT 3,A` (CB 5F): R350. -/
def execBit3A (s : State) : Answer := bitTest .b3 .a s

/-- `BIT 4,B` (CB 60): R350. -/
def execBit4B (s : State) : Answer := bitTest .b4 .b s

/-- `BIT 4,C` (CB 61): R350. -/
def execBit4C (s : State) : Answer := bitTest .b4 .c s

/-- `BIT 4,D` (CB 62): R350. -/
def execBit4D (s : State) : Answer := bitTest .b4 .d s

/-- `BIT 4,E` (CB 63): R350. -/
def execBit4E (s : State) : Answer := bitTest .b4 .e s

/-- `BIT 4,H` (CB 64): R350. -/
def execBit4H (s : State) : Answer := bitTest .b4 .h s

/-- `BIT 4,L` (CB 65): R350. -/
def execBit4L (s : State) : Answer := bitTest .b4 .l s

/-- `BIT 4,(HL)` (CB 66): R351. -/
def execBit4IndHL (s : State) : Answer := bitTest .b4 .indHL s

/-- `BIT 4,A` (CB 67): R350. -/
def execBit4A (s : State) : Answer := bitTest .b4 .a s

/-- `BIT 5,B` (CB 68): R350. -/
def execBit5B (s : State) : Answer := bitTest .b5 .b s

/-- `BIT 5,C` (CB 69): R350. -/
def execBit5C (s : State) : Answer := bitTest .b5 .c s

/-- `BIT 5,D` (CB 6A): R350. -/
def execBit5D (s : State) : Answer := bitTest .b5 .d s

/-- `BIT 5,E` (CB 6B): R350. -/
def execBit5E (s : State) : Answer := bitTest .b5 .e s

/-- `BIT 5,H` (CB 6C): R350. -/
def execBit5H (s : State) : Answer := bitTest .b5 .h s

/-- `BIT 5,L` (CB 6D): R350. -/
def execBit5L (s : State) : Answer := bitTest .b5 .l s

/-- `BIT 5,(HL)` (CB 6E): R351. -/
def execBit5IndHL (s : State) : Answer := bitTest .b5 .indHL s

/-- `BIT 5,A` (CB 6F): R350. -/
def execBit5A (s : State) : Answer := bitTest .b5 .a s

/-- `BIT 6,B` (CB 70): R350. -/
def execBit6B (s : State) : Answer := bitTest .b6 .b s

/-- `BIT 6,C` (CB 71): R350. -/
def execBit6C (s : State) : Answer := bitTest .b6 .c s

/-- `BIT 6,D` (CB 72): R350. -/
def execBit6D (s : State) : Answer := bitTest .b6 .d s

/-- `BIT 6,E` (CB 73): R350. -/
def execBit6E (s : State) : Answer := bitTest .b6 .e s

/-- `BIT 6,H` (CB 74): R350. -/
def execBit6H (s : State) : Answer := bitTest .b6 .h s

/-- `BIT 6,L` (CB 75): R350. -/
def execBit6L (s : State) : Answer := bitTest .b6 .l s

/-- `BIT 6,(HL)` (CB 76): R351. -/
def execBit6IndHL (s : State) : Answer := bitTest .b6 .indHL s

/-- `BIT 6,A` (CB 77): R350. -/
def execBit6A (s : State) : Answer := bitTest .b6 .a s

/-- `BIT 7,B` (CB 78): R350. -/
def execBit7B (s : State) : Answer := bitTest .b7 .b s

/-- `BIT 7,C` (CB 79): R350. -/
def execBit7C (s : State) : Answer := bitTest .b7 .c s

/-- `BIT 7,D` (CB 7A): R350. -/
def execBit7D (s : State) : Answer := bitTest .b7 .d s

/-- `BIT 7,E` (CB 7B): R350. -/
def execBit7E (s : State) : Answer := bitTest .b7 .e s

/-- `BIT 7,H` (CB 7C): R350. -/
def execBit7H (s : State) : Answer := bitTest .b7 .h s

/-- `BIT 7,L` (CB 7D): R350. -/
def execBit7L (s : State) : Answer := bitTest .b7 .l s

/-- `BIT 7,(HL)` (CB 7E): R351. -/
def execBit7IndHL (s : State) : Answer := bitTest .b7 .indHL s

/-- `BIT 7,A` (CB 7F): R350. -/
def execBit7A (s : State) : Answer := bitTest .b7 .a s

/-- `RES 0,B` (CB 80): R352. -/
def execRes0B (s : State) : Answer := bitReset .b0 .b s

/-- `RES 0,C` (CB 81): R352. -/
def execRes0C (s : State) : Answer := bitReset .b0 .c s

/-- `RES 0,D` (CB 82): R352. -/
def execRes0D (s : State) : Answer := bitReset .b0 .d s

/-- `RES 0,E` (CB 83): R352. -/
def execRes0E (s : State) : Answer := bitReset .b0 .e s

/-- `RES 0,H` (CB 84): R352. -/
def execRes0H (s : State) : Answer := bitReset .b0 .h s

/-- `RES 0,L` (CB 85): R352. -/
def execRes0L (s : State) : Answer := bitReset .b0 .l s

/-- `RES 0,(HL)` (CB 86): R353. -/
def execRes0IndHL (s : State) : Answer := bitReset .b0 .indHL s

/-- `RES 0,A` (CB 87): R352. -/
def execRes0A (s : State) : Answer := bitReset .b0 .a s

/-- `RES 1,B` (CB 88): R352. -/
def execRes1B (s : State) : Answer := bitReset .b1 .b s

/-- `RES 1,C` (CB 89): R352. -/
def execRes1C (s : State) : Answer := bitReset .b1 .c s

/-- `RES 1,D` (CB 8A): R352. -/
def execRes1D (s : State) : Answer := bitReset .b1 .d s

/-- `RES 1,E` (CB 8B): R352. -/
def execRes1E (s : State) : Answer := bitReset .b1 .e s

/-- `RES 1,H` (CB 8C): R352. -/
def execRes1H (s : State) : Answer := bitReset .b1 .h s

/-- `RES 1,L` (CB 8D): R352. -/
def execRes1L (s : State) : Answer := bitReset .b1 .l s

/-- `RES 1,(HL)` (CB 8E): R353. -/
def execRes1IndHL (s : State) : Answer := bitReset .b1 .indHL s

/-- `RES 1,A` (CB 8F): R352. -/
def execRes1A (s : State) : Answer := bitReset .b1 .a s

/-- `RES 2,B` (CB 90): R352. -/
def execRes2B (s : State) : Answer := bitReset .b2 .b s

/-- `RES 2,C` (CB 91): R352. -/
def execRes2C (s : State) : Answer := bitReset .b2 .c s

/-- `RES 2,D` (CB 92): R352. -/
def execRes2D (s : State) : Answer := bitReset .b2 .d s

/-- `RES 2,E` (CB 93): R352. -/
def execRes2E (s : State) : Answer := bitReset .b2 .e s

/-- `RES 2,H` (CB 94): R352. -/
def execRes2H (s : State) : Answer := bitReset .b2 .h s

/-- `RES 2,L` (CB 95): R352. -/
def execRes2L (s : State) : Answer := bitReset .b2 .l s

/-- `RES 2,(HL)` (CB 96): R353. -/
def execRes2IndHL (s : State) : Answer := bitReset .b2 .indHL s

/-- `RES 2,A` (CB 97): R352. -/
def execRes2A (s : State) : Answer := bitReset .b2 .a s

/-- `RES 3,B` (CB 98): R352. -/
def execRes3B (s : State) : Answer := bitReset .b3 .b s

/-- `RES 3,C` (CB 99): R352. -/
def execRes3C (s : State) : Answer := bitReset .b3 .c s

/-- `RES 3,D` (CB 9A): R352. -/
def execRes3D (s : State) : Answer := bitReset .b3 .d s

/-- `RES 3,E` (CB 9B): R352. -/
def execRes3E (s : State) : Answer := bitReset .b3 .e s

/-- `RES 3,H` (CB 9C): R352. -/
def execRes3H (s : State) : Answer := bitReset .b3 .h s

/-- `RES 3,L` (CB 9D): R352. -/
def execRes3L (s : State) : Answer := bitReset .b3 .l s

/-- `RES 3,(HL)` (CB 9E): R353. -/
def execRes3IndHL (s : State) : Answer := bitReset .b3 .indHL s

/-- `RES 3,A` (CB 9F): R352. -/
def execRes3A (s : State) : Answer := bitReset .b3 .a s

/-- `RES 4,B` (CB A0): R352. -/
def execRes4B (s : State) : Answer := bitReset .b4 .b s

/-- `RES 4,C` (CB A1): R352. -/
def execRes4C (s : State) : Answer := bitReset .b4 .c s

/-- `RES 4,D` (CB A2): R352. -/
def execRes4D (s : State) : Answer := bitReset .b4 .d s

/-- `RES 4,E` (CB A3): R352. -/
def execRes4E (s : State) : Answer := bitReset .b4 .e s

/-- `RES 4,H` (CB A4): R352. -/
def execRes4H (s : State) : Answer := bitReset .b4 .h s

/-- `RES 4,L` (CB A5): R352. -/
def execRes4L (s : State) : Answer := bitReset .b4 .l s

/-- `RES 4,(HL)` (CB A6): R353. -/
def execRes4IndHL (s : State) : Answer := bitReset .b4 .indHL s

/-- `RES 4,A` (CB A7): R352. -/
def execRes4A (s : State) : Answer := bitReset .b4 .a s

/-- `RES 5,B` (CB A8): R352. -/
def execRes5B (s : State) : Answer := bitReset .b5 .b s

/-- `RES 5,C` (CB A9): R352. -/
def execRes5C (s : State) : Answer := bitReset .b5 .c s

/-- `RES 5,D` (CB AA): R352. -/
def execRes5D (s : State) : Answer := bitReset .b5 .d s

/-- `RES 5,E` (CB AB): R352. -/
def execRes5E (s : State) : Answer := bitReset .b5 .e s

/-- `RES 5,H` (CB AC): R352. -/
def execRes5H (s : State) : Answer := bitReset .b5 .h s

/-- `RES 5,L` (CB AD): R352. -/
def execRes5L (s : State) : Answer := bitReset .b5 .l s

/-- `RES 5,(HL)` (CB AE): R353. -/
def execRes5IndHL (s : State) : Answer := bitReset .b5 .indHL s

/-- `RES 5,A` (CB AF): R352. -/
def execRes5A (s : State) : Answer := bitReset .b5 .a s

/-- `RES 6,B` (CB B0): R352. -/
def execRes6B (s : State) : Answer := bitReset .b6 .b s

/-- `RES 6,C` (CB B1): R352. -/
def execRes6C (s : State) : Answer := bitReset .b6 .c s

/-- `RES 6,D` (CB B2): R352. -/
def execRes6D (s : State) : Answer := bitReset .b6 .d s

/-- `RES 6,E` (CB B3): R352. -/
def execRes6E (s : State) : Answer := bitReset .b6 .e s

/-- `RES 6,H` (CB B4): R352. -/
def execRes6H (s : State) : Answer := bitReset .b6 .h s

/-- `RES 6,L` (CB B5): R352. -/
def execRes6L (s : State) : Answer := bitReset .b6 .l s

/-- `RES 6,(HL)` (CB B6): R353. -/
def execRes6IndHL (s : State) : Answer := bitReset .b6 .indHL s

/-- `RES 6,A` (CB B7): R352. -/
def execRes6A (s : State) : Answer := bitReset .b6 .a s

/-- `RES 7,B` (CB B8): R352. -/
def execRes7B (s : State) : Answer := bitReset .b7 .b s

/-- `RES 7,C` (CB B9): R352. -/
def execRes7C (s : State) : Answer := bitReset .b7 .c s

/-- `RES 7,D` (CB BA): R352. -/
def execRes7D (s : State) : Answer := bitReset .b7 .d s

/-- `RES 7,E` (CB BB): R352. -/
def execRes7E (s : State) : Answer := bitReset .b7 .e s

/-- `RES 7,H` (CB BC): R352. -/
def execRes7H (s : State) : Answer := bitReset .b7 .h s

/-- `RES 7,L` (CB BD): R352. -/
def execRes7L (s : State) : Answer := bitReset .b7 .l s

/-- `RES 7,(HL)` (CB BE): R353. -/
def execRes7IndHL (s : State) : Answer := bitReset .b7 .indHL s

/-- `RES 7,A` (CB BF): R352. -/
def execRes7A (s : State) : Answer := bitReset .b7 .a s

/-- `SET 0,B` (CB C0): R354. -/
def execSet0B (s : State) : Answer := bitSet .b0 .b s

/-- `SET 0,C` (CB C1): R354. -/
def execSet0C (s : State) : Answer := bitSet .b0 .c s

/-- `SET 0,D` (CB C2): R354. -/
def execSet0D (s : State) : Answer := bitSet .b0 .d s

/-- `SET 0,E` (CB C3): R354. -/
def execSet0E (s : State) : Answer := bitSet .b0 .e s

/-- `SET 0,H` (CB C4): R354. -/
def execSet0H (s : State) : Answer := bitSet .b0 .h s

/-- `SET 0,L` (CB C5): R354. -/
def execSet0L (s : State) : Answer := bitSet .b0 .l s

/-- `SET 0,(HL)` (CB C6): R355. -/
def execSet0IndHL (s : State) : Answer := bitSet .b0 .indHL s

/-- `SET 0,A` (CB C7): R354. -/
def execSet0A (s : State) : Answer := bitSet .b0 .a s

/-- `SET 1,B` (CB C8): R354. -/
def execSet1B (s : State) : Answer := bitSet .b1 .b s

/-- `SET 1,C` (CB C9): R354. -/
def execSet1C (s : State) : Answer := bitSet .b1 .c s

/-- `SET 1,D` (CB CA): R354. -/
def execSet1D (s : State) : Answer := bitSet .b1 .d s

/-- `SET 1,E` (CB CB): R354. -/
def execSet1E (s : State) : Answer := bitSet .b1 .e s

/-- `SET 1,H` (CB CC): R354. -/
def execSet1H (s : State) : Answer := bitSet .b1 .h s

/-- `SET 1,L` (CB CD): R354. -/
def execSet1L (s : State) : Answer := bitSet .b1 .l s

/-- `SET 1,(HL)` (CB CE): R355. -/
def execSet1IndHL (s : State) : Answer := bitSet .b1 .indHL s

/-- `SET 1,A` (CB CF): R354. -/
def execSet1A (s : State) : Answer := bitSet .b1 .a s

/-- `SET 2,B` (CB D0): R354. -/
def execSet2B (s : State) : Answer := bitSet .b2 .b s

/-- `SET 2,C` (CB D1): R354. -/
def execSet2C (s : State) : Answer := bitSet .b2 .c s

/-- `SET 2,D` (CB D2): R354. -/
def execSet2D (s : State) : Answer := bitSet .b2 .d s

/-- `SET 2,E` (CB D3): R354. -/
def execSet2E (s : State) : Answer := bitSet .b2 .e s

/-- `SET 2,H` (CB D4): R354. -/
def execSet2H (s : State) : Answer := bitSet .b2 .h s

/-- `SET 2,L` (CB D5): R354. -/
def execSet2L (s : State) : Answer := bitSet .b2 .l s

/-- `SET 2,(HL)` (CB D6): R355. -/
def execSet2IndHL (s : State) : Answer := bitSet .b2 .indHL s

/-- `SET 2,A` (CB D7): R354. -/
def execSet2A (s : State) : Answer := bitSet .b2 .a s

/-- `SET 3,B` (CB D8): R354. -/
def execSet3B (s : State) : Answer := bitSet .b3 .b s

/-- `SET 3,C` (CB D9): R354. -/
def execSet3C (s : State) : Answer := bitSet .b3 .c s

/-- `SET 3,D` (CB DA): R354. -/
def execSet3D (s : State) : Answer := bitSet .b3 .d s

/-- `SET 3,E` (CB DB): R354. -/
def execSet3E (s : State) : Answer := bitSet .b3 .e s

/-- `SET 3,H` (CB DC): R354. -/
def execSet3H (s : State) : Answer := bitSet .b3 .h s

/-- `SET 3,L` (CB DD): R354. -/
def execSet3L (s : State) : Answer := bitSet .b3 .l s

/-- `SET 3,(HL)` (CB DE): R355. -/
def execSet3IndHL (s : State) : Answer := bitSet .b3 .indHL s

/-- `SET 3,A` (CB DF): R354. -/
def execSet3A (s : State) : Answer := bitSet .b3 .a s

/-- `SET 4,B` (CB E0): R354. -/
def execSet4B (s : State) : Answer := bitSet .b4 .b s

/-- `SET 4,C` (CB E1): R354. -/
def execSet4C (s : State) : Answer := bitSet .b4 .c s

/-- `SET 4,D` (CB E2): R354. -/
def execSet4D (s : State) : Answer := bitSet .b4 .d s

/-- `SET 4,E` (CB E3): R354. -/
def execSet4E (s : State) : Answer := bitSet .b4 .e s

/-- `SET 4,H` (CB E4): R354. -/
def execSet4H (s : State) : Answer := bitSet .b4 .h s

/-- `SET 4,L` (CB E5): R354. -/
def execSet4L (s : State) : Answer := bitSet .b4 .l s

/-- `SET 4,(HL)` (CB E6): R355. -/
def execSet4IndHL (s : State) : Answer := bitSet .b4 .indHL s

/-- `SET 4,A` (CB E7): R354. -/
def execSet4A (s : State) : Answer := bitSet .b4 .a s

/-- `SET 5,B` (CB E8): R354. -/
def execSet5B (s : State) : Answer := bitSet .b5 .b s

/-- `SET 5,C` (CB E9): R354. -/
def execSet5C (s : State) : Answer := bitSet .b5 .c s

/-- `SET 5,D` (CB EA): R354. -/
def execSet5D (s : State) : Answer := bitSet .b5 .d s

/-- `SET 5,E` (CB EB): R354. -/
def execSet5E (s : State) : Answer := bitSet .b5 .e s

/-- `SET 5,H` (CB EC): R354. -/
def execSet5H (s : State) : Answer := bitSet .b5 .h s

/-- `SET 5,L` (CB ED): R354. -/
def execSet5L (s : State) : Answer := bitSet .b5 .l s

/-- `SET 5,(HL)` (CB EE): R355. -/
def execSet5IndHL (s : State) : Answer := bitSet .b5 .indHL s

/-- `SET 5,A` (CB EF): R354. -/
def execSet5A (s : State) : Answer := bitSet .b5 .a s

/-- `SET 6,B` (CB F0): R354. -/
def execSet6B (s : State) : Answer := bitSet .b6 .b s

/-- `SET 6,C` (CB F1): R354. -/
def execSet6C (s : State) : Answer := bitSet .b6 .c s

/-- `SET 6,D` (CB F2): R354. -/
def execSet6D (s : State) : Answer := bitSet .b6 .d s

/-- `SET 6,E` (CB F3): R354. -/
def execSet6E (s : State) : Answer := bitSet .b6 .e s

/-- `SET 6,H` (CB F4): R354. -/
def execSet6H (s : State) : Answer := bitSet .b6 .h s

/-- `SET 6,L` (CB F5): R354. -/
def execSet6L (s : State) : Answer := bitSet .b6 .l s

/-- `SET 6,(HL)` (CB F6): R355. -/
def execSet6IndHL (s : State) : Answer := bitSet .b6 .indHL s

/-- `SET 6,A` (CB F7): R354. -/
def execSet6A (s : State) : Answer := bitSet .b6 .a s

/-- `SET 7,B` (CB F8): R354. -/
def execSet7B (s : State) : Answer := bitSet .b7 .b s

/-- `SET 7,C` (CB F9): R354. -/
def execSet7C (s : State) : Answer := bitSet .b7 .c s

/-- `SET 7,D` (CB FA): R354. -/
def execSet7D (s : State) : Answer := bitSet .b7 .d s

/-- `SET 7,E` (CB FB): R354. -/
def execSet7E (s : State) : Answer := bitSet .b7 .e s

/-- `SET 7,H` (CB FC): R354. -/
def execSet7H (s : State) : Answer := bitSet .b7 .h s

/-- `SET 7,L` (CB FD): R354. -/
def execSet7L (s : State) : Answer := bitSet .b7 .l s

/-- `SET 7,(HL)` (CB FE): R355. -/
def execSet7IndHL (s : State) : Answer := bitSet .b7 .indHL s

/-- `SET 7,A` (CB FF): R354. -/
def execSet7A (s : State) : Answer := bitSet .b7 .a s

end Sys2Proof.Machine
end

