-- ==== Sys2Proof/Machine/Control.lean ====
section
/-! DEFINITION. Control flow and the stack (46_control.md R450 to R465). PC is the address of the next
instruction when a meaning runs (R125), which is what CALL and RST push and JR adds to. -/

namespace Sys2Proof.Machine

/-! ## Shared operations -/

/-- `PC <- PC +16 sext_16(e8)`. -/
def relativeTo (e8 : Byte) (s : State) : State := { s with pc := s.pc + signExtend16 e8 }

/-- `JR e8` (R452). -/
def jumpRelative (e8 : Byte) (s : State) : Answer := finish 3 (relativeTo e8 s)

/-- `JR cc,e8` (R453): 3 cycles taken, 2 not. -/
def jumpRelativeIf (cc : Cond) (e8 : Byte) (s : State) : Answer :=
  if condHolds cc s then finish 3 (relativeTo e8 s) else finish 2 s

/-- `JP cc,a16` (R455): 4 cycles taken, 3 not. -/
def jumpIf (cc : Cond) (a16 : Word) (s : State) : Answer :=
  if condHolds cc s then finish 4 { s with pc := a16 } else finish 3 s

/-- `Push16(PC); PC <- target` (R457, R458, R462). -/
def callTo (target : Word) (s : State) : State := { push16 s.pc s with pc := target }

/-- `CALL cc,a16` (R458): 6 cycles taken, 3 not. -/
def callIf (cc : Cond) (a16 : Word) (s : State) : Answer :=
  if condHolds cc s then finish 6 (callTo a16 s) else finish 3 s

/-- `PC <- Pop16()` (R459 to R461). -/
def returnFrom (s : State) : State :=
  let r := pop16 s
  { r.2 with pc := r.1 }

/-- `RET cc` (R460): 5 cycles taken, 2 not. -/
def returnIf (cc : Cond) (s : State) : Answer :=
  if condHolds cc s then finish 5 (returnFrom s) else finish 2 s

/-- `PUSH r16stk[p]` (R463). -/
def pushPair (q : StackPair) (s : State) : Answer := finish 4 (push16 (readStackPair q s) s)

/-- `POP r16stk[p]` (R464, R465). -/
def popPair (q : StackPair) (s : State) : Answer :=
  let r := pop16 s
  finish 3 (writeStackPair q r.1 r.2)

/-! ## The instructions -/

/-- `JR e8` (18): R452. -/
def execJr (e8 : Byte) (s : State) : Answer := jumpRelative e8 s

/-- `JR NZ,e8` (20): R453. -/
def execJrNZ (e8 : Byte) (s : State) : Answer := jumpRelativeIf .nz e8 s

/-- `JR Z,e8` (28): R453. -/
def execJrZ (e8 : Byte) (s : State) : Answer := jumpRelativeIf .z e8 s

/-- `JR NC,e8` (30): R453. -/
def execJrNC (e8 : Byte) (s : State) : Answer := jumpRelativeIf .nc e8 s

/-- `JR C,e8` (38): R453. -/
def execJrC (e8 : Byte) (s : State) : Answer := jumpRelativeIf .c e8 s

/-- `RET NZ` (C0): R460. -/
def execRetNZ (s : State) : Answer := returnIf .nz s

/-- `POP BC` (C1): R464. -/
def execPopBC (s : State) : Answer := popPair .bc s

/-- `JP NZ,a16` (C2): R455. -/
def execJpNZ (a16 : Word) (s : State) : Answer := jumpIf .nz a16 s

/-- `JP a16` (C3): R454. -/
def execJp (a16 : Word) (s : State) : Answer := finish 4 { s with pc := a16 }

/-- `CALL NZ,a16` (C4): R458. -/
def execCallNZ (a16 : Word) (s : State) : Answer := callIf .nz a16 s

/-- `PUSH BC` (C5): R463. -/
def execPushBC (s : State) : Answer := pushPair .bc s

/-- `RST 0x00` (C7): R462. -/
def execRst00 (s : State) : Answer := finish 4 (callTo (restartAddress .t00) s)

/-- `RET Z` (C8): R460. -/
def execRetZ (s : State) : Answer := returnIf .z s

/-- `RET` (C9): R459. -/
def execRet (s : State) : Answer := finish 4 (returnFrom s)

/-- `JP Z,a16` (CA): R455. -/
def execJpZ (a16 : Word) (s : State) : Answer := jumpIf .z a16 s

/-- `CALL Z,a16` (CC): R458. -/
def execCallZ (a16 : Word) (s : State) : Answer := callIf .z a16 s

/-- `CALL a16` (CD): R457. -/
def execCall (a16 : Word) (s : State) : Answer := finish 6 (callTo a16 s)

/-- `RST 0x08` (CF): R462. -/
def execRst08 (s : State) : Answer := finish 4 (callTo (restartAddress .t08) s)

/-- `RET NC` (D0): R460. -/
def execRetNC (s : State) : Answer := returnIf .nc s

/-- `POP DE` (D1): R464. -/
def execPopDE (s : State) : Answer := popPair .de s

/-- `JP NC,a16` (D2): R455. -/
def execJpNC (a16 : Word) (s : State) : Answer := jumpIf .nc a16 s

/-- `CALL NC,a16` (D4): R458. -/
def execCallNC (a16 : Word) (s : State) : Answer := callIf .nc a16 s

/-- `PUSH DE` (D5): R463. -/
def execPushDE (s : State) : Answer := pushPair .de s

/-- `RST 0x10` (D7): R462. -/
def execRst10 (s : State) : Answer := finish 4 (callTo (restartAddress .t10) s)

/-- `RET C` (D8): R460. -/
def execRetC (s : State) : Answer := returnIf .c s

/-- `RETI` (D9): R461; the same as RET in this core. -/
def execReti (s : State) : Answer := finish 4 (returnFrom s)

/-- `JP C,a16` (DA): R455. -/
def execJpC (a16 : Word) (s : State) : Answer := jumpIf .c a16 s

/-- `CALL C,a16` (DC): R458. -/
def execCallC (a16 : Word) (s : State) : Answer := callIf .c a16 s

/-- `RST 0x18` (DF): R462. -/
def execRst18 (s : State) : Answer := finish 4 (callTo (restartAddress .t18) s)

/-- `POP HL` (E1): R464. -/
def execPopHL (s : State) : Answer := popPair .hl s

/-- `PUSH HL` (E5): R463. -/
def execPushHL (s : State) : Answer := pushPair .hl s

/-- `RST 0x20` (E7): R462. -/
def execRst20 (s : State) : Answer := finish 4 (callTo (restartAddress .t20) s)

/-- `JP HL` (E9): R456. -/
def execJpHL (s : State) : Answer := finish 1 { s with pc := s.hl }

/-- `RST 0x28` (EF): R462. -/
def execRst28 (s : State) : Answer := finish 4 (callTo (restartAddress .t28) s)

/-- `POP AF` (F1): R465. -/
def execPopAF (s : State) : Answer := popPair .af s

/-- `PUSH AF` (F5): R463. -/
def execPushAF (s : State) : Answer := pushPair .af s

/-- `RST 0x30` (F7): R462. -/
def execRst30 (s : State) : Answer := finish 4 (callTo (restartAddress .t30) s)

/-- `RST 0x38` (FF): R462. -/
def execRst38 (s : State) : Answer := finish 4 (callTo (restartAddress .t38) s)

end Sys2Proof.Machine
end

