-- ==== Sys2Proof/Machine/LoadStore.lean ====
section
/-! DEFINITION. Loads, stores and stack-pointer arithmetic (45_load_store.md R400 to R424). -/

namespace Sys2Proof.Machine

/-! ## Shared operations -/

/-- `LD r8[y],r8[z]` (R400 to R402): 1 cycle between registers, 2 where one side is (HL). -/
def loadOperand (dst src : Operand8) (s : State) : Answer :=
  finish (costBy dst (costBy src 1 2) 2) (writeOperand dst (readOperand src s) s)

/-- `LD r8[y],d8` (R403, R404): 2 cycles, 3 for (HL). -/
def loadImmediate8 (dst : Operand8) (d8 : Byte) (s : State) : Answer :=
  finish (costBy dst 2 3) (writeOperand dst d8 s)

/-- `LD r16[p],d16` (R405). -/
def loadImmediate16 (p : Pair) (d16 : Word) (s : State) : Answer := finish 3 (writePair p d16 s)

/-- `LD (r16mem[p]),A` (R406 to R409): HL changes once, and the access uses its old value (C9). -/
def storeIndirect (m : Indirect) (s : State) : Answer :=
  let r := resolveIndirect m s
  finish 2 (r.2.writeByte r.1 r.2.a)

/-- `LD A,(r16mem[p])` (R410 to R413). -/
def loadIndirect (m : Indirect) (s : State) : Answer :=
  let r := resolveIndirect m s
  finish 2 { r.2 with a := r.2.readByte r.1 }

/-- Store A at an address (R414, R416, R418). -/
def storeA (addr : Word) (cycles : Nat) (s : State) : Answer := finish cycles (s.writeByte addr s.a)

/-- Load A from an address (R415, R417, R419). -/
def loadA (addr : Word) (cycles : Nat) (s : State) : Answer := finish cycles { s with a := s.readByte addr }

/-- `ADD SP,e8` (R423). -/
def addToSP (e8 : Byte) (s : State) : Answer :=
  let r := spPlusE8 s.sp e8
  finish 4 ({ s with sp := r.1 }.putFlags r.2)

/-- `LD HL,SP+e8` (R424): SP is unchanged. -/
def loadHLFromSP (e8 : Byte) (s : State) : Answer :=
  let r := spPlusE8 s.sp e8
  finish 3 ((s.setHL r.1).putFlags r.2)

/-! ## The instructions -/

/-- `LD BC,d16` (01): R405. -/
def execLdBCImm16 (d16 : Word) (s : State) : Answer := loadImmediate16 .bc d16 s

/-- `LD (BC),A` (02): R406. -/
def execLdIndBCA (s : State) : Answer := storeIndirect .bc s

/-- `LD B,d8` (06): R403. -/
def execLdBImm8 (d8 : Byte) (s : State) : Answer := loadImmediate8 .b d8 s

/-- `LD (a16),SP` (08): R420. -/
def execLdIndA16SP (a16 : Word) (s : State) : Answer := finish 5 (s.writeWord a16 s.sp)

/-- `LD A,(BC)` (0A): R410. -/
def execLdAIndBC (s : State) : Answer := loadIndirect .bc s

/-- `LD C,d8` (0E): R403. -/
def execLdCImm8 (d8 : Byte) (s : State) : Answer := loadImmediate8 .c d8 s

/-- `LD DE,d16` (11): R405. -/
def execLdDEImm16 (d16 : Word) (s : State) : Answer := loadImmediate16 .de d16 s

/-- `LD (DE),A` (12): R407. -/
def execLdIndDEA (s : State) : Answer := storeIndirect .de s

/-- `LD D,d8` (16): R403. -/
def execLdDImm8 (d8 : Byte) (s : State) : Answer := loadImmediate8 .d d8 s

/-- `LD A,(DE)` (1A): R411. -/
def execLdAIndDE (s : State) : Answer := loadIndirect .de s

/-- `LD E,d8` (1E): R403. -/
def execLdEImm8 (d8 : Byte) (s : State) : Answer := loadImmediate8 .e d8 s

/-- `LD HL,d16` (21): R405. -/
def execLdHLImm16 (d16 : Word) (s : State) : Answer := loadImmediate16 .hl d16 s

/-- `LD (HL+),A` (22): R408. -/
def execLdIndHLIncA (s : State) : Answer := storeIndirect .hlInc s

/-- `LD H,d8` (26): R403. -/
def execLdHImm8 (d8 : Byte) (s : State) : Answer := loadImmediate8 .h d8 s

/-- `LD A,(HL+)` (2A): R412. -/
def execLdAIndHLInc (s : State) : Answer := loadIndirect .hlInc s

/-- `LD L,d8` (2E): R403. -/
def execLdLImm8 (d8 : Byte) (s : State) : Answer := loadImmediate8 .l d8 s

/-- `LD SP,d16` (31): R405. -/
def execLdSPImm16 (d16 : Word) (s : State) : Answer := loadImmediate16 .sp d16 s

/-- `LD (HL-),A` (32): R409. -/
def execLdIndHLDecA (s : State) : Answer := storeIndirect .hlDec s

/-- `LD (HL),d8` (36): R404. -/
def execLdIndHLImm8 (d8 : Byte) (s : State) : Answer := loadImmediate8 .indHL d8 s

/-- `LD A,(HL-)` (3A): R413. -/
def execLdAIndHLDec (s : State) : Answer := loadIndirect .hlDec s

/-- `LD A,d8` (3E): R403. -/
def execLdAImm8 (d8 : Byte) (s : State) : Answer := loadImmediate8 .a d8 s

/-- `LD B,B` (40): R400. -/
def execLdBB (s : State) : Answer := loadOperand .b .b s

/-- `LD B,C` (41): R400. -/
def execLdBC (s : State) : Answer := loadOperand .b .c s

/-- `LD B,D` (42): R400. -/
def execLdBD (s : State) : Answer := loadOperand .b .d s

/-- `LD B,E` (43): R400. -/
def execLdBE (s : State) : Answer := loadOperand .b .e s

/-- `LD B,H` (44): R400. -/
def execLdBH (s : State) : Answer := loadOperand .b .h s

/-- `LD B,L` (45): R400. -/
def execLdBL (s : State) : Answer := loadOperand .b .l s

/-- `LD B,(HL)` (46): R401. -/
def execLdBIndHL (s : State) : Answer := loadOperand .b .indHL s

/-- `LD B,A` (47): R400. -/
def execLdBA (s : State) : Answer := loadOperand .b .a s

/-- `LD C,B` (48): R400. -/
def execLdCB (s : State) : Answer := loadOperand .c .b s

/-- `LD C,C` (49): R400. -/
def execLdCC (s : State) : Answer := loadOperand .c .c s

/-- `LD C,D` (4A): R400. -/
def execLdCD (s : State) : Answer := loadOperand .c .d s

/-- `LD C,E` (4B): R400. -/
def execLdCE (s : State) : Answer := loadOperand .c .e s

/-- `LD C,H` (4C): R400. -/
def execLdCH (s : State) : Answer := loadOperand .c .h s

/-- `LD C,L` (4D): R400. -/
def execLdCL (s : State) : Answer := loadOperand .c .l s

/-- `LD C,(HL)` (4E): R401. -/
def execLdCIndHL (s : State) : Answer := loadOperand .c .indHL s

/-- `LD C,A` (4F): R400. -/
def execLdCA (s : State) : Answer := loadOperand .c .a s

/-- `LD D,B` (50): R400. -/
def execLdDB (s : State) : Answer := loadOperand .d .b s

/-- `LD D,C` (51): R400. -/
def execLdDC (s : State) : Answer := loadOperand .d .c s

/-- `LD D,D` (52): R400. -/
def execLdDD (s : State) : Answer := loadOperand .d .d s

/-- `LD D,E` (53): R400. -/
def execLdDE (s : State) : Answer := loadOperand .d .e s

/-- `LD D,H` (54): R400. -/
def execLdDH (s : State) : Answer := loadOperand .d .h s

/-- `LD D,L` (55): R400. -/
def execLdDL (s : State) : Answer := loadOperand .d .l s

/-- `LD D,(HL)` (56): R401. -/
def execLdDIndHL (s : State) : Answer := loadOperand .d .indHL s

/-- `LD D,A` (57): R400. -/
def execLdDA (s : State) : Answer := loadOperand .d .a s

/-- `LD E,B` (58): R400. -/
def execLdEB (s : State) : Answer := loadOperand .e .b s

/-- `LD E,C` (59): R400. -/
def execLdEC (s : State) : Answer := loadOperand .e .c s

/-- `LD E,D` (5A): R400. -/
def execLdED (s : State) : Answer := loadOperand .e .d s

/-- `LD E,E` (5B): R400. -/
def execLdEE (s : State) : Answer := loadOperand .e .e s

/-- `LD E,H` (5C): R400. -/
def execLdEH (s : State) : Answer := loadOperand .e .h s

/-- `LD E,L` (5D): R400. -/
def execLdEL (s : State) : Answer := loadOperand .e .l s

/-- `LD E,(HL)` (5E): R401. -/
def execLdEIndHL (s : State) : Answer := loadOperand .e .indHL s

/-- `LD E,A` (5F): R400. -/
def execLdEA (s : State) : Answer := loadOperand .e .a s

/-- `LD H,B` (60): R400. -/
def execLdHB (s : State) : Answer := loadOperand .h .b s

/-- `LD H,C` (61): R400. -/
def execLdHC (s : State) : Answer := loadOperand .h .c s

/-- `LD H,D` (62): R400. -/
def execLdHD (s : State) : Answer := loadOperand .h .d s

/-- `LD H,E` (63): R400. -/
def execLdHE (s : State) : Answer := loadOperand .h .e s

/-- `LD H,H` (64): R400. -/
def execLdHH (s : State) : Answer := loadOperand .h .h s

/-- `LD H,L` (65): R400. -/
def execLdHL (s : State) : Answer := loadOperand .h .l s

/-- `LD H,(HL)` (66): R401. -/
def execLdHIndHL (s : State) : Answer := loadOperand .h .indHL s

/-- `LD H,A` (67): R400. -/
def execLdHA (s : State) : Answer := loadOperand .h .a s

/-- `LD L,B` (68): R400. -/
def execLdLB (s : State) : Answer := loadOperand .l .b s

/-- `LD L,C` (69): R400. -/
def execLdLC (s : State) : Answer := loadOperand .l .c s

/-- `LD L,D` (6A): R400. -/
def execLdLD (s : State) : Answer := loadOperand .l .d s

/-- `LD L,E` (6B): R400. -/
def execLdLE (s : State) : Answer := loadOperand .l .e s

/-- `LD L,H` (6C): R400. -/
def execLdLH (s : State) : Answer := loadOperand .l .h s

/-- `LD L,L` (6D): R400. -/
def execLdLL (s : State) : Answer := loadOperand .l .l s

/-- `LD L,(HL)` (6E): R401. -/
def execLdLIndHL (s : State) : Answer := loadOperand .l .indHL s

/-- `LD L,A` (6F): R400. -/
def execLdLA (s : State) : Answer := loadOperand .l .a s

/-- `LD (HL),B` (70): R402. -/
def execLdIndHLB (s : State) : Answer := loadOperand .indHL .b s

/-- `LD (HL),C` (71): R402. -/
def execLdIndHLC (s : State) : Answer := loadOperand .indHL .c s

/-- `LD (HL),D` (72): R402. -/
def execLdIndHLD (s : State) : Answer := loadOperand .indHL .d s

/-- `LD (HL),E` (73): R402. -/
def execLdIndHLE (s : State) : Answer := loadOperand .indHL .e s

/-- `LD (HL),H` (74): R402. -/
def execLdIndHLH (s : State) : Answer := loadOperand .indHL .h s

/-- `LD (HL),L` (75): R402. -/
def execLdIndHLL (s : State) : Answer := loadOperand .indHL .l s

/-- `LD (HL),A` (77): R402. -/
def execLdIndHLA (s : State) : Answer := loadOperand .indHL .a s

/-- `LD A,B` (78): R400. -/
def execLdAB (s : State) : Answer := loadOperand .a .b s

/-- `LD A,C` (79): R400. -/
def execLdAC (s : State) : Answer := loadOperand .a .c s

/-- `LD A,D` (7A): R400. -/
def execLdAD (s : State) : Answer := loadOperand .a .d s

/-- `LD A,E` (7B): R400. -/
def execLdAE (s : State) : Answer := loadOperand .a .e s

/-- `LD A,H` (7C): R400. -/
def execLdAH (s : State) : Answer := loadOperand .a .h s

/-- `LD A,L` (7D): R400. -/
def execLdAL (s : State) : Answer := loadOperand .a .l s

/-- `LD A,(HL)` (7E): R401. -/
def execLdAIndHL (s : State) : Answer := loadOperand .a .indHL s

/-- `LD A,A` (7F): R400. -/
def execLdAA (s : State) : Answer := loadOperand .a .a s

/-- `LDH (a8),A` (E0): R414. -/
def execLdhIndA8A (a8 : Byte) (s : State) : Answer := storeA (highPage a8) 3 s

/-- `LD (C),A` (E2): R416. -/
def execLdIndCA (s : State) : Answer := storeA (highPage s.c) 2 s

/-- `ADD SP,e8` (E8): R423. -/
def execAddSPe8 (e8 : Byte) (s : State) : Answer := addToSP e8 s

/-- `LD (a16),A` (EA): R418. -/
def execLdIndA16A (a16 : Word) (s : State) : Answer := storeA a16 4 s

/-- `LDH A,(a8)` (F0): R415. -/
def execLdhAIndA8 (a8 : Byte) (s : State) : Answer := loadA (highPage a8) 3 s

/-- `LD A,(C)` (F2): R417. -/
def execLdAIndC (s : State) : Answer := loadA (highPage s.c) 2 s

/-- `LD HL,SP+e8` (F8): R424. -/
def execLdHLSPe8 (e8 : Byte) (s : State) : Answer := loadHLFromSP e8 s

/-- `LD SP,HL` (F9): R421. -/
def execLdSPHL (s : State) : Answer := finish 2 { s with sp := s.hl }

/-- `LD A,(a16)` (FA): R419. -/
def execLdAIndA16 (a16 : Word) (s : State) : Answer := loadA a16 4 s

end Sys2Proof.Machine
end

