-- ==== Sys2Proof/Machine/Fetch.lean ====
section
/-! DEFINITION. Fetching an instruction (30_encoding.md R112, R113, R125): the opcode byte, the CB second
byte or the immediate bytes, each advancing PC by one. -/

namespace Sys2Proof.Machine

/-- `FetchByte()` (R112): the byte at PC, and the state with PC one further; PC wraps (D3). -/
def fetchByte (s : State) : Byte × State := (s.readByte s.pc, { s with pc := s.pc + 1 })

/-- `FetchWord()` (R113): two fetches, the low byte first. -/
def fetchWord (s : State) : Word × State :=
  let lo := fetchByte s
  let hi := fetchByte lo.2
  (joinBytes hi.1 lo.1, hi.2)

/-- The immediate bytes of the base instruction `op` (R125, R132), and the instruction with them. -/
def fetchBase (op : Byte) (s : State) : Instr × State :=
  match instrLength op with
  | 1 => (decodeBase op 0 0, s)
  | 2 =>
    let n := fetchByte s
    (decodeBase op n.1 0, n.2)
  | _ =>
    let w := fetchWord s
    (decodeBase op (lowByte w.1) (highByte w.1), w.2)

/-- The first half of `execute-one` (R125): one whole instruction fetched at PC, and the state with PC just
past it. A CB-prefixed instruction is fetched whole (R508, D9). -/
def fetchInstr (s : State) : Instr × State :=
  let op := fetchByte s
  if op.1 = Config.cbPrefix then
    let cb := fetchByte op.2
    (decodeCB cb.1, cb.2)
  else
    fetchBase op.1 op.2

end Sys2Proof.Machine
end

