-- ==== Sys2Proof/Machine/RotateShift.lean ====
section
/-! DEFINITION. Rotates, shifts and SWAP (43_rotate_shift.md R300 to R321). -/

namespace Sys2Proof.Machine

/-! ## Shared operations -/

/-- RLCA, RRCA, RLA, RRA (R300 to R303): flags `0 0 0 C`. -/
def rotateA (op : RotOp) (s : State) : Answer :=
  let r := rot op s.a s.flagC
  finish 1 ({ s with a := r.1 }.setFlags false false false r.2)

/-- The CB rotates and shifts (R305 to R320): flags `Z 0 0 C`; 2 cycles for a register, 4 for (HL), which
is read once and then written once. -/
def rotateOperand (op : RotOp) (r : Operand8) (s : State) : Answer :=
  let v := rot op (readOperand r s) s.flagC
  finish (costBy r 2 4) ((writeOperand r v.1 s).setFlags (decide (v.1 = 0)) false false v.2)

/-! ## The instructions -/

/-- `RLCA` (07): R300. -/
def execRlca (s : State) : Answer := rotateA .rlc s

/-- `RRCA` (0F): R301. -/
def execRrca (s : State) : Answer := rotateA .rrc s

/-- `RLA` (17): R302. -/
def execRla (s : State) : Answer := rotateA .rl s

/-- `RRA` (1F): R303. -/
def execRra (s : State) : Answer := rotateA .rr s

/-- `RLC B` (CB 00): R305. -/
def execRlcB (s : State) : Answer := rotateOperand .rlc .b s

/-- `RLC C` (CB 01): R305. -/
def execRlcC (s : State) : Answer := rotateOperand .rlc .c s

/-- `RLC D` (CB 02): R305. -/
def execRlcD (s : State) : Answer := rotateOperand .rlc .d s

/-- `RLC E` (CB 03): R305. -/
def execRlcE (s : State) : Answer := rotateOperand .rlc .e s

/-- `RLC H` (CB 04): R305. -/
def execRlcH (s : State) : Answer := rotateOperand .rlc .h s

/-- `RLC L` (CB 05): R305. -/
def execRlcL (s : State) : Answer := rotateOperand .rlc .l s

/-- `RLC (HL)` (CB 06): R306. -/
def execRlcIndHL (s : State) : Answer := rotateOperand .rlc .indHL s

/-- `RLC A` (CB 07): R305. -/
def execRlcA (s : State) : Answer := rotateOperand .rlc .a s

/-- `RRC B` (CB 08): R307. -/
def execRrcB (s : State) : Answer := rotateOperand .rrc .b s

/-- `RRC C` (CB 09): R307. -/
def execRrcC (s : State) : Answer := rotateOperand .rrc .c s

/-- `RRC D` (CB 0A): R307. -/
def execRrcD (s : State) : Answer := rotateOperand .rrc .d s

/-- `RRC E` (CB 0B): R307. -/
def execRrcE (s : State) : Answer := rotateOperand .rrc .e s

/-- `RRC H` (CB 0C): R307. -/
def execRrcH (s : State) : Answer := rotateOperand .rrc .h s

/-- `RRC L` (CB 0D): R307. -/
def execRrcL (s : State) : Answer := rotateOperand .rrc .l s

/-- `RRC (HL)` (CB 0E): R308. -/
def execRrcIndHL (s : State) : Answer := rotateOperand .rrc .indHL s

/-- `RRC A` (CB 0F): R307. -/
def execRrcA (s : State) : Answer := rotateOperand .rrc .a s

/-- `RL B` (CB 10): R309. -/
def execRlB (s : State) : Answer := rotateOperand .rl .b s

/-- `RL C` (CB 11): R309. -/
def execRlC (s : State) : Answer := rotateOperand .rl .c s

/-- `RL D` (CB 12): R309. -/
def execRlD (s : State) : Answer := rotateOperand .rl .d s

/-- `RL E` (CB 13): R309. -/
def execRlE (s : State) : Answer := rotateOperand .rl .e s

/-- `RL H` (CB 14): R309. -/
def execRlH (s : State) : Answer := rotateOperand .rl .h s

/-- `RL L` (CB 15): R309. -/
def execRlL (s : State) : Answer := rotateOperand .rl .l s

/-- `RL (HL)` (CB 16): R310. -/
def execRlIndHL (s : State) : Answer := rotateOperand .rl .indHL s

/-- `RL A` (CB 17): R309. -/
def execRlA (s : State) : Answer := rotateOperand .rl .a s

/-- `RR B` (CB 18): R311. -/
def execRrB (s : State) : Answer := rotateOperand .rr .b s

/-- `RR C` (CB 19): R311. -/
def execRrC (s : State) : Answer := rotateOperand .rr .c s

/-- `RR D` (CB 1A): R311. -/
def execRrD (s : State) : Answer := rotateOperand .rr .d s

/-- `RR E` (CB 1B): R311. -/
def execRrE (s : State) : Answer := rotateOperand .rr .e s

/-- `RR H` (CB 1C): R311. -/
def execRrH (s : State) : Answer := rotateOperand .rr .h s

/-- `RR L` (CB 1D): R311. -/
def execRrL (s : State) : Answer := rotateOperand .rr .l s

/-- `RR (HL)` (CB 1E): R312. -/
def execRrIndHL (s : State) : Answer := rotateOperand .rr .indHL s

/-- `RR A` (CB 1F): R311. -/
def execRrA (s : State) : Answer := rotateOperand .rr .a s

/-- `SLA B` (CB 20): R313. -/
def execSlaB (s : State) : Answer := rotateOperand .sla .b s

/-- `SLA C` (CB 21): R313. -/
def execSlaC (s : State) : Answer := rotateOperand .sla .c s

/-- `SLA D` (CB 22): R313. -/
def execSlaD (s : State) : Answer := rotateOperand .sla .d s

/-- `SLA E` (CB 23): R313. -/
def execSlaE (s : State) : Answer := rotateOperand .sla .e s

/-- `SLA H` (CB 24): R313. -/
def execSlaH (s : State) : Answer := rotateOperand .sla .h s

/-- `SLA L` (CB 25): R313. -/
def execSlaL (s : State) : Answer := rotateOperand .sla .l s

/-- `SLA (HL)` (CB 26): R314. -/
def execSlaIndHL (s : State) : Answer := rotateOperand .sla .indHL s

/-- `SLA A` (CB 27): R313. -/
def execSlaA (s : State) : Answer := rotateOperand .sla .a s

/-- `SRA B` (CB 28): R315. -/
def execSraB (s : State) : Answer := rotateOperand .sra .b s

/-- `SRA C` (CB 29): R315. -/
def execSraC (s : State) : Answer := rotateOperand .sra .c s

/-- `SRA D` (CB 2A): R315. -/
def execSraD (s : State) : Answer := rotateOperand .sra .d s

/-- `SRA E` (CB 2B): R315. -/
def execSraE (s : State) : Answer := rotateOperand .sra .e s

/-- `SRA H` (CB 2C): R315. -/
def execSraH (s : State) : Answer := rotateOperand .sra .h s

/-- `SRA L` (CB 2D): R315. -/
def execSraL (s : State) : Answer := rotateOperand .sra .l s

/-- `SRA (HL)` (CB 2E): R316. -/
def execSraIndHL (s : State) : Answer := rotateOperand .sra .indHL s

/-- `SRA A` (CB 2F): R315. -/
def execSraA (s : State) : Answer := rotateOperand .sra .a s

/-- `SWAP B` (CB 30): R317. -/
def execSwapB (s : State) : Answer := rotateOperand .swap .b s

/-- `SWAP C` (CB 31): R317. -/
def execSwapC (s : State) : Answer := rotateOperand .swap .c s

/-- `SWAP D` (CB 32): R317. -/
def execSwapD (s : State) : Answer := rotateOperand .swap .d s

/-- `SWAP E` (CB 33): R317. -/
def execSwapE (s : State) : Answer := rotateOperand .swap .e s

/-- `SWAP H` (CB 34): R317. -/
def execSwapH (s : State) : Answer := rotateOperand .swap .h s

/-- `SWAP L` (CB 35): R317. -/
def execSwapL (s : State) : Answer := rotateOperand .swap .l s

/-- `SWAP (HL)` (CB 36): R318. -/
def execSwapIndHL (s : State) : Answer := rotateOperand .swap .indHL s

/-- `SWAP A` (CB 37): R317. -/
def execSwapA (s : State) : Answer := rotateOperand .swap .a s

/-- `SRL B` (CB 38): R319. -/
def execSrlB (s : State) : Answer := rotateOperand .srl .b s

/-- `SRL C` (CB 39): R319. -/
def execSrlC (s : State) : Answer := rotateOperand .srl .c s

/-- `SRL D` (CB 3A): R319. -/
def execSrlD (s : State) : Answer := rotateOperand .srl .d s

/-- `SRL E` (CB 3B): R319. -/
def execSrlE (s : State) : Answer := rotateOperand .srl .e s

/-- `SRL H` (CB 3C): R319. -/
def execSrlH (s : State) : Answer := rotateOperand .srl .h s

/-- `SRL L` (CB 3D): R319. -/
def execSrlL (s : State) : Answer := rotateOperand .srl .l s

/-- `SRL (HL)` (CB 3E): R320. -/
def execSrlIndHL (s : State) : Answer := rotateOperand .srl .indHL s

/-- `SRL A` (CB 3F): R319. -/
def execSrlA (s : State) : Answer := rotateOperand .srl .a s

end Sys2Proof.Machine
end

