-- ==== Sys2Proof/Machine/Misc.lean ====
section
/-! DEFINITION. Miscellaneous instructions, the CB prefix and the illegal opcodes (47_misc.md R500 to
R509). -/

namespace Sys2Proof.Machine

/-! ## Shared operations -/

/-- CPL (R505): `- 1 1 -`. -/
def complementA (s : State) : Answer := finish 1 ({ s with a := ~~~s.a }.setFlags s.flagZ true true s.flagC)

/-- SCF (R506): `- 0 0 1`. -/
def setCarry (s : State) : Answer := finish 1 (s.setFlags s.flagZ false false true)

/-- CCF (R507): `- 0 0 C`, the carry complemented. -/
def complementCarry (s : State) : Answer := finish 1 (s.setFlags s.flagZ false false (!s.flagC))

/-- Perform the CB-table entry a byte selects (R122, R508), by its fields. -/
def performCB (cb : Byte) (s : State) : Answer :=
  match fieldX cb with
  | 0 => rotateOperand (rotOf (fieldY cb)) (operandOf (fieldZ cb)) s
  | 1 => bitTest (bitOf (fieldY cb)) (operandOf (fieldZ cb)) s
  | 2 => bitReset (bitOf (fieldY cb)) (operandOf (fieldZ cb)) s
  | _ => bitSet (bitOf (fieldY cb)) (operandOf (fieldZ cb)) s

/-! ## The instructions -/

/-- `NOP` (00): R500. -/
def execNop (s : State) : Answer := finish 1 s

/-- `STOP` (10): R501; the operand byte was fetched with the instruction and is ignored. -/
def execStop (_n : Byte) (s : State) : Answer := finish 1 s

/-- `CPL` (2F): R505. -/
def execCpl (s : State) : Answer := complementA s

/-- `SCF` (37): R506. -/
def execScf (s : State) : Answer := setCarry s

/-- `CCF` (3F): R507. -/
def execCcf (s : State) : Answer := complementCarry s

/-- `HALT` (76): R502; in this core it does not stop the processor. -/
def execHalt (s : State) : Answer := finish 1 s

/-- `PREFIX CB` (CB): R508; PC is just past the prefix byte, and the byte there selects the CB-table entry. -/
def execPrefixCB (s : State) : Answer :=
  let cb := fetchByte s
  performCB cb.1 cb.2

/-- `ILLEGAL` (D3): R509. -/
def execIllegalD3 (s : State) : Answer := takeIllegalOpcode 0xD3#8 s

/-- `ILLEGAL` (DB): R509. -/
def execIllegalDB (s : State) : Answer := takeIllegalOpcode 0xDB#8 s

/-- `ILLEGAL` (DD): R509. -/
def execIllegalDD (s : State) : Answer := takeIllegalOpcode 0xDD#8 s

/-- `ILLEGAL` (E3): R509. -/
def execIllegalE3 (s : State) : Answer := takeIllegalOpcode 0xE3#8 s

/-- `ILLEGAL` (E4): R509. -/
def execIllegalE4 (s : State) : Answer := takeIllegalOpcode 0xE4#8 s

/-- `ILLEGAL` (EB): R509. -/
def execIllegalEB (s : State) : Answer := takeIllegalOpcode 0xEB#8 s

/-- `ILLEGAL` (EC): R509. -/
def execIllegalEC (s : State) : Answer := takeIllegalOpcode 0xEC#8 s

/-- `ILLEGAL` (ED): R509. -/
def execIllegalED (s : State) : Answer := takeIllegalOpcode 0xED#8 s

/-- `DI` (F3): R503; there is no interrupt state to change. -/
def execDi (s : State) : Answer := finish 1 s

/-- `ILLEGAL` (F4): R509. -/
def execIllegalF4 (s : State) : Answer := takeIllegalOpcode 0xF4#8 s

/-- `EI` (FB): R504; there is no interrupt state to change. -/
def execEi (s : State) : Answer := finish 1 s

/-- `ILLEGAL` (FC): R509. -/
def execIllegalFC (s : State) : Answer := takeIllegalOpcode 0xFC#8 s

/-- `ILLEGAL` (FD): R509. -/
def execIllegalFD (s : State) : Answer := takeIllegalOpcode 0xFD#8 s

end Sys2Proof.Machine
end

