-- ==== Sys2Proof/Machine/Step.lean ====
section
/-! DEFINITION. One step, `execute-one` (10_state.md R42; 30_encoding.md R125): fetch one whole
instruction at PC and perform it. -/

namespace Sys2Proof.Machine

/-- `execute-one` (R125). What it returns to the driver is the next state's `result` (R42). -/
def step (s : State) : Host.Outcome State Fault Refusal := exec (fetchInstr s).1 (fetchInstr s).2

/-- Place bytes at rising addresses from `addr`; addresses wrap. -/
def State.placeBytes (s : State) (addr : Word) : List Byte → State
  | [] => s
  | v :: rest => State.placeBytes (s.writeByte addr v) (addr + 1) rest

/-- The state with an instruction of the opcode table stored where `step` fetches next: its bytes at PC,
filled up with zero bytes to three, the longest instruction (R100). Nothing else changes. -/
def State.withFetchWord (s : State) (nbits w : Nat) : State :=
  s.placeBytes s.pc ((tableBytes nbits w ++ [0, 0, 0]).take 3)

end Sys2Proof.Machine
end

