-- ==== Sys2Proof/Machine/HostPort.lean ====
section
/-! DEFINITION. The state-access port (10_state.md R44, R45): what the host may read and write between
steps. These operations are the host's, not an instruction's; `step` never calls them. -/

namespace Sys2Proof.Machine

/-- The 8-bit registers by name. -/
inductive ByteRegister where
  | a
  | f
  | b
  | c
  | d
  | e
  | h
  | l
  deriving DecidableEq, Repr

/-- The register pairs by name (R32). -/
inductive PairName where
  | af
  | bc
  | de
  | hl
  deriving DecidableEq, Repr

/-- The flags by name (R34). -/
inductive FlagName where
  | z
  | n
  | h
  | c
  deriving DecidableEq, Repr

/-- The host reads a byte register. -/
def hostReadByteRegister (r : ByteRegister) (s : State) : Byte :=
  match r with
  | .a => s.a
  | .f => s.readF
  | .b => s.b
  | .c => s.c
  | .d => s.d
  | .e => s.e
  | .h => s.h
  | .l => s.l

/-- The host writes a byte register; F drops its low nibble (R35, D2). -/
def hostWriteByteRegister (r : ByteRegister) (v : Byte) (s : State) : State :=
  match r with
  | .a => { s with a := v }
  | .f => s.writeF v
  | .b => { s with b := v }
  | .c => { s with c := v }
  | .d => { s with d := v }
  | .e => { s with e := v }
  | .h => { s with h := v }
  | .l => { s with l := v }

/-- The host reads a pair (R32). -/
def hostReadPair (p : PairName) (s : State) : Word :=
  match p with
  | .af => s.af
  | .bc => s.bc
  | .de => s.de
  | .hl => s.hl

/-- The host writes a pair (R33). -/
def hostWritePair (p : PairName) (v : Word) (s : State) : State :=
  match p with
  | .af => s.setAF v
  | .bc => s.setBC v
  | .de => s.setDE v
  | .hl => s.setHL v

/-- The host reads one flag (R45). -/
def hostReadFlag (x : FlagName) (s : State) : Bool :=
  match x with
  | .z => s.flagZ
  | .n => s.flagN
  | .h => s.flagH
  | .c => s.flagC

/-- The host writes one flag and no other (R45). -/
def hostWriteFlag (x : FlagName) (v : Bool) (s : State) : State :=
  match x with
  | .z => s.setFlags v s.flagN s.flagH s.flagC
  | .n => s.setFlags s.flagZ v s.flagH s.flagC
  | .h => s.setFlags s.flagZ s.flagN v s.flagC
  | .c => s.setFlags s.flagZ s.flagN s.flagH v

/-- The host reads SP. -/
def hostReadSP (s : State) : Word := s.sp

/-- The host reads PC: before a step, the address of the next fetch (R38). -/
def hostReadPC (s : State) : Word := s.pc

/-- The host writes SP. -/
def hostWriteSP (v : Word) (s : State) : State := { s with sp := v }

/-- The host writes PC: the address of the next fetch. -/
def hostWritePC (v : Word) (s : State) : State := { s with pc := v }

/-- The host writes a memory byte. -/
def hostWriteMemory (addr : Word) (v : Byte) (s : State) : State := s.writeByte addr v

/-- The host reads a memory byte. -/
def hostReadMemory (addr : Word) (s : State) : Byte := s.readByte addr

end Sys2Proof.Machine
end

