-- ==== Sys2Proof/Machine/Timing.lean ====
section
/-! DEFINITION. The cycle counts of 70_reset_and_hazards.md R706 as the spec's own two tables. The meanings
take their counts from the Cycles line of their own rules; these tables stand beside them, so that a
statement can compare the two. -/

namespace Sys2Proof.Machine

/-- R706, base table, row by high nibble and column by low nibble: the count when taken and the count when
not taken, equal where the table gives one figure; (0, 0) at the prefix and at the illegal opcodes. -/
def baseCycleTable : List (List (Nat × Nat)) :=
  [[(1, 1), (3, 3), (2, 2), (2, 2), (1, 1), (1, 1), (2, 2), (1, 1), (5, 5), (2, 2), (2, 2), (2, 2), (1, 1), (1, 1), (2, 2), (1, 1)],
   [(1, 1), (3, 3), (2, 2), (2, 2), (1, 1), (1, 1), (2, 2), (1, 1), (3, 3), (2, 2), (2, 2), (2, 2), (1, 1), (1, 1), (2, 2), (1, 1)],
   [(3, 2), (3, 3), (2, 2), (2, 2), (1, 1), (1, 1), (2, 2), (1, 1), (3, 2), (2, 2), (2, 2), (2, 2), (1, 1), (1, 1), (2, 2), (1, 1)],
   [(3, 2), (3, 3), (2, 2), (2, 2), (3, 3), (3, 3), (3, 3), (1, 1), (3, 2), (2, 2), (2, 2), (2, 2), (1, 1), (1, 1), (2, 2), (1, 1)],
   [(1, 1), (1, 1), (1, 1), (1, 1), (1, 1), (1, 1), (2, 2), (1, 1), (1, 1), (1, 1), (1, 1), (1, 1), (1, 1), (1, 1), (2, 2), (1, 1)],
   [(1, 1), (1, 1), (1, 1), (1, 1), (1, 1), (1, 1), (2, 2), (1, 1), (1, 1), (1, 1), (1, 1), (1, 1), (1, 1), (1, 1), (2, 2), (1, 1)],
   [(1, 1), (1, 1), (1, 1), (1, 1), (1, 1), (1, 1), (2, 2), (1, 1), (1, 1), (1, 1), (1, 1), (1, 1), (1, 1), (1, 1), (2, 2), (1, 1)],
   [(2, 2), (2, 2), (2, 2), (2, 2), (2, 2), (2, 2), (1, 1), (2, 2), (1, 1), (1, 1), (1, 1), (1, 1), (1, 1), (1, 1), (2, 2), (1, 1)],
   [(1, 1), (1, 1), (1, 1), (1, 1), (1, 1), (1, 1), (2, 2), (1, 1), (1, 1), (1, 1), (1, 1), (1, 1), (1, 1), (1, 1), (2, 2), (1, 1)],
   [(1, 1), (1, 1), (1, 1), (1, 1), (1, 1), (1, 1), (2, 2), (1, 1), (1, 1), (1, 1), (1, 1), (1, 1), (1, 1), (1, 1), (2, 2), (1, 1)],
   [(1, 1), (1, 1), (1, 1), (1, 1), (1, 1), (1, 1), (2, 2), (1, 1), (1, 1), (1, 1), (1, 1), (1, 1), (1, 1), (1, 1), (2, 2), (1, 1)],
   [(1, 1), (1, 1), (1, 1), (1, 1), (1, 1), (1, 1), (2, 2), (1, 1), (1, 1), (1, 1), (1, 1), (1, 1), (1, 1), (1, 1), (2, 2), (1, 1)],
   [(5, 2), (3, 3), (4, 3), (4, 4), (6, 3), (4, 4), (2, 2), (4, 4), (5, 2), (4, 4), (4, 3), (0, 0), (6, 3), (6, 6), (2, 2), (4, 4)],
   [(5, 2), (3, 3), (4, 3), (0, 0), (6, 3), (4, 4), (2, 2), (4, 4), (5, 2), (4, 4), (4, 3), (0, 0), (6, 3), (0, 0), (2, 2), (4, 4)],
   [(3, 3), (3, 3), (2, 2), (0, 0), (0, 0), (4, 4), (2, 2), (4, 4), (4, 4), (1, 1), (4, 4), (0, 0), (0, 0), (0, 0), (2, 2), (4, 4)],
   [(3, 3), (3, 3), (2, 2), (1, 1), (0, 0), (4, 4), (2, 2), (4, 4), (3, 3), (2, 2), (4, 4), (1, 1), (0, 0), (0, 0), (2, 2), (4, 4)]]

/-- R706, CB table, by the second byte: the count of the whole 2-byte instruction. -/
def cbCycleTable : List (List Nat) :=
  [[2, 2, 2, 2, 2, 2, 4, 2, 2, 2, 2, 2, 2, 2, 4, 2],
   [2, 2, 2, 2, 2, 2, 4, 2, 2, 2, 2, 2, 2, 2, 4, 2],
   [2, 2, 2, 2, 2, 2, 4, 2, 2, 2, 2, 2, 2, 2, 4, 2],
   [2, 2, 2, 2, 2, 2, 4, 2, 2, 2, 2, 2, 2, 2, 4, 2],
   [2, 2, 2, 2, 2, 2, 3, 2, 2, 2, 2, 2, 2, 2, 3, 2],
   [2, 2, 2, 2, 2, 2, 3, 2, 2, 2, 2, 2, 2, 2, 3, 2],
   [2, 2, 2, 2, 2, 2, 3, 2, 2, 2, 2, 2, 2, 2, 3, 2],
   [2, 2, 2, 2, 2, 2, 3, 2, 2, 2, 2, 2, 2, 2, 3, 2],
   [2, 2, 2, 2, 2, 2, 4, 2, 2, 2, 2, 2, 2, 2, 4, 2],
   [2, 2, 2, 2, 2, 2, 4, 2, 2, 2, 2, 2, 2, 2, 4, 2],
   [2, 2, 2, 2, 2, 2, 4, 2, 2, 2, 2, 2, 2, 2, 4, 2],
   [2, 2, 2, 2, 2, 2, 4, 2, 2, 2, 2, 2, 2, 2, 4, 2],
   [2, 2, 2, 2, 2, 2, 4, 2, 2, 2, 2, 2, 2, 2, 4, 2],
   [2, 2, 2, 2, 2, 2, 4, 2, 2, 2, 2, 2, 2, 2, 4, 2],
   [2, 2, 2, 2, 2, 2, 4, 2, 2, 2, 2, 2, 2, 2, 4, 2],
   [2, 2, 2, 2, 2, 2, 4, 2, 2, 2, 2, 2, 2, 2, 4, 2]]

/-- The two counts of a base opcode. -/
def baseCycles (op : Byte) : Nat × Nat := (baseCycleTable.getD (op.toNat / 16) []).getD (op.toNat % 16) (0, 0)

/-- The count of a CB-prefixed instruction. -/
def cbCycles (cb : Byte) : Nat := (cbCycleTable.getD (cb.toNat / 16) []).getD (cb.toNat % 16) 0

/-- The count of a step in clock ticks (R128), where it has one. -/
def StepResult.clockTicks (r : StepResult) : Option Nat :=
  match r with
  | .ok cycles => some (cycles * Config.clocksPerMachineCycle)
  | _ => none

end Sys2Proof.Machine
end

