-- ==== Sys2Proof/WellFormed.lean ====
section
/-! DEFINITION. Which terms of `Instr` are whole instructions. Every operand is a bit vector of the
width its encoding gives it, so no operand can be out of range; the one term that is not a whole
instruction is the CB prefix standing alone. -/

namespace Sys2Proof

/-- 47_misc.md R508: "The CB prefix (0xCB) is not an instruction by itself"; every other row of the
opcode table is a whole instruction. -/
def Instr.wellFormed (i : Instr) : Bool :=
  match i with
  | .prefixCB => false
  | _ => true

end Sys2Proof
end

