-- ==== Sys2Proof/Safety.lean ====
section
/-! DEFINITION. What counts as a safe state and a safe run, in the terms the statements use. -/

namespace Sys2Proof.Machine

/-- The invariant of the machine: the memory is in its canonical form, and the low nibble of F is 0, which
10_state.md R35 says of it at all times. -/
abbrev State.Inv (s : State) : Prop := Memory.wf s.mem = true ∧ s.f &&& 0x0F#8 = 0#8

/-- The last step ended in `ok` (10_state.md R42). A run is safe when every state it reaches says so: an
`illegal` result is handed to the driver, who decides whether to go on (R601, R613). -/
def State.endedOk (s : State) : Bool :=
  match s.result with
  | .ok _ => true
  | _ => false

/-- The 11 illegal opcodes (30_encoding.md R123). -/
def illegalOpcodes : List Byte :=
  [0xD3#8, 0xDB#8, 0xDD#8, 0xE3#8, 0xE4#8, 0xEB#8, 0xEC#8, 0xED#8, 0xF4#8, 0xFC#8, 0xFD#8]

end Sys2Proof.Machine
end

