-- ==== Sys2Proof/Certificates/Slice0/Obligations.lean ====
section
/-! DEFINITION. The statements about the machine, from the numbered rules of spec/. First the words they are
written in, under Sys2Proof.Claims; then one def per statement.

A statement about an instruction says its encoding, the next state exec answers from EVERY state, the value
of each register, flag and byte the rule writes, the count the step returns, and the frame: everything else
is unchanged. exec is given the state whose PC is just past the instruction (30_encoding.md R125). What the
step port returns (R42) is read in the model's field `result` (log entries 1 and 5). -/

namespace Sys2Proof.Claims

open Sys2Proof.Machine

/-! ## The codes of the selectors, for the encodings (R102 to R111) -/

/-- R102. -/
def operandCode (r : Operand8) : Nat :=
  match r with
  | .b => 0
  | .c => 1
  | .d => 2
  | .e => 3
  | .h => 4
  | .l => 5
  | .indHL => 6
  | .a => 7

/-- R104. -/
def pairCode (p : Pair) : Nat :=
  match p with
  | .bc => 0
  | .de => 1
  | .hl => 2
  | .sp => 3

/-- R105. -/
def stackPairCode (q : StackPair) : Nat :=
  match q with
  | .bc => 0
  | .de => 1
  | .hl => 2
  | .af => 3

/-- R106. -/
def indirectCode (m : Indirect) : Nat :=
  match m with
  | .bc => 0
  | .de => 1
  | .hlInc => 2
  | .hlDec => 3

/-- R107. -/
def condCode (cc : Cond) : Nat :=
  match cc with
  | .nz => 0
  | .z => 1
  | .nc => 2
  | .c => 3

/-- R109. -/
def rotCode (op : RotOp) : Nat :=
  match op with
  | .rlc => 0
  | .rrc => 1
  | .rl => 2
  | .rr => 3
  | .sla => 4
  | .sra => 5
  | .swap => 6
  | .srl => 7

/-- R110. -/
def bitCode (i : BitIndex) : Nat :=
  match i with
  | .b0 => 0
  | .b1 => 1
  | .b2 => 2
  | .b3 => 3
  | .b4 => 4
  | .b5 => 5
  | .b6 => 6
  | .b7 => 7

/-- R111: y of `RST y*8`. -/
def restartCode (t : Restart) : Nat :=
  match t with
  | .t00 => 0
  | .t08 => 1
  | .t10 => 2
  | .t18 => 3
  | .t20 => 4
  | .t28 => 5
  | .t30 => 6
  | .t38 => 7

/-- A byte of an encoding, written as a number. -/
def byteOf (n : Nat) : Byte := BitVec.ofNat 8 n

/-! ## Flags, operands and frames -/

/-- The flags of a state are these four, and the low nibble of F is 0 (R34, R35). -/
def HasFlags (t : State) (z n h c : Bool) : Prop :=
  t.flagZ = z ∧ t.flagN = n ∧ t.flagH = h ∧ t.flagC = c ∧ t.f &&& 0x0F#8 = 0#8

/-- The value an operand that `s` addressed has in `t`: the register, or for (HL) the byte at the address
HL held in `s`. -/
def operandAfter (r : Operand8) (s t : State) : Byte :=
  match r with
  | .indHL => t.readByte s.hl
  | _ => readOperand r t

/-- From `s` to `t`, no 8-bit register but `r`, none of SP, PC and the launch parameter, and no byte of
memory but, for (HL), the one at HL, has changed. F is spoken of apart. -/
def OnlyOperandWritten (r : Operand8) (s t : State) : Prop :=
  (∀ q, q ≠ r → q ≠ .indHL → readOperand q t = readOperand q s) ∧
  t.sp = s.sp ∧ t.pc = s.pc ∧ t.illegalMode = s.illegalMode ∧
  ∀ x : Word, (r = .indHL → x ≠ s.hl) → t.readByte x = s.readByte x

/-- No byte of memory has changed but those at the listed addresses. -/
def MemoryKeptBut (addresses : List Word) (s t : State) : Prop :=
  ∀ x : Word, x ∉ addresses → t.readByte x = s.readByte x

/-- The count of an instruction that costs `reg` on a register and `mem` on (HL). -/
def cost (r : Operand8) (reg mem : Nat) : Nat := if r = .indHL then mem else reg

/-! ## The ALU operations -/

/-- `i` adds `v` and `cin` to A (R200). -/
def AddsToA (i : Instr) (s : State) (v cin cycles : Nat) : Prop :=
  ∃ t, exec i s = .next t ∧
    t.a.toNat = (s.a.toNat + v + cin) % 256 ∧
    HasFlags t (decide ((s.a.toNat + v + cin) % 256 = 0)) false
      (decide (s.a.toNat % 16 + v % 16 + cin > 15)) (decide (s.a.toNat + v + cin > 255)) ∧
    t.result = .ok cycles ∧
    t = { s with a := t.a, f := t.f, result := t.result }

/-- `i` sets the flags of A minus `v` minus `cin` (R201), and A to the difference, or keeps it. -/
def SubtractsFromA (i : Instr) (s : State) (v cin cycles : Nat) (keepsA : Bool) : Prop :=
  ∃ t, exec i s = .next t ∧
    t.a.toNat = (if keepsA then s.a.toNat else (s.a.toNat + 512 - v - cin) % 256) ∧
    HasFlags t (decide ((s.a.toNat + 512 - v - cin) % 256 = 0)) true
      (decide (s.a.toNat % 16 < v % 16 + cin)) (decide (s.a.toNat < v + cin)) ∧
    t.result = .ok cycles ∧
    t = { s with a := t.a, f := t.f, result := t.result }

/-- `i` leaves in A, bit by bit, `bitOp` of A and `v`, with the flags `Z 0 h 0` (R214 to R222). -/
def CombinesWithA (i : Instr) (s : State) (v : Byte) (bitOp : Bool → Bool → Bool) (h : Bool) (cycles : Nat) : Prop :=
  ∃ t, exec i s = .next t ∧
    (∀ k, k < 8 → t.a.getLsbD k = bitOp (s.a.getLsbD k) (v.getLsbD k)) ∧
    HasFlags t (decide (t.a = 0)) false h false ∧
    t.result = .ok cycles ∧
    t = { s with a := t.a, f := t.f, result := t.result }

/-- `P` holds of the eight operand rows and the immediate row of an ALU operation with what each reads and
costs; their encodings are `base + r` and `immediate d8`. -/
def AluRows (op : AluOp) (base immediate : Nat) (s : State) (P : Instr → Byte → Nat → Prop) : Prop :=
  (∀ r, encode (rowAlu op r) = [byteOf (base + operandCode r)] ∧ P (rowAlu op r) (readOperand r s) (cost r 1 2)) ∧
  ∀ d8, encode (rowAluImm op d8) = [byteOf immediate, d8] ∧ P (rowAluImm op d8) d8 2

/-! ## Rotates and shifts (R304), as arithmetic on the value of the byte -/

/-- The result of `Rot(op, v)`. -/
def rotValue (op : RotOp) (v cin : Nat) : Nat :=
  match op with
  | .rlc => v * 2 % 256 + v / 128
  | .rrc => v / 2 + v % 2 * 128
  | .rl => v * 2 % 256 + cin
  | .rr => v / 2 + cin * 128
  | .sla => v * 2 % 256
  | .sra => v / 2 + v / 128 * 128
  | .swap => v % 16 * 16 + v / 16
  | .srl => v / 2

/-- The carry out of `Rot(op, v)`: the bit shifted out, and 0 for SWAP. -/
def rotCarry (op : RotOp) (v : Nat) : Bool :=
  match op with
  | .rlc | .rl | .sla => decide (v ≥ 128)
  | .rrc | .rr | .sra | .srl => decide (v % 2 = 1)
  | .swap => false

/-! ## Control transfers -/

/-- `i` ends with PC at `target`, having changed nothing else. -/
def JumpsTo (i : Instr) (s : State) (target : Word) (cycles : Nat) : Prop :=
  ∃ t, exec i s = .next t ∧ t.pc = target ∧ t.result = .ok cycles ∧
    t = { s with pc := t.pc, result := t.result }

/-- `i` does nothing but end with a count: PC stays past the instruction. -/
def DoesNothing (i : Instr) (s : State) (cycles : Nat) : Prop :=
  exec i s = .next { s with result := .ok cycles }

/-- From `s` to `t` the word `v` has been pushed (R450): high byte at SP-1, low byte at SP-2, no other byte. -/
def Pushed (v : Word) (s t : State) : Prop :=
  t.sp = s.sp - 2 ∧ t.readByte (s.sp - 1) = highByte v ∧ t.readByte (s.sp - 2) = lowByte v ∧
    MemoryKeptBut [s.sp - 1, s.sp - 2] s t

/-- `i` pushes the address of the next instruction and goes to `target`. -/
def Calls (i : Instr) (s : State) (target : Word) (cycles : Nat) : Prop :=
  ∃ t, exec i s = .next t ∧ t.pc = target ∧ Pushed s.pc s t ∧ t.result = .ok cycles ∧
    t = { s with pc := t.pc, sp := t.sp, mem := t.mem, result := t.result }

/-- `i` pops PC: the low byte from SP, the high byte from SP+1. -/
def Returns (i : Instr) (s : State) (cycles : Nat) : Prop :=
  ∃ t, exec i s = .next t ∧ t.pc = joinBytes (s.readByte (s.sp + 1)) (s.readByte s.sp) ∧ t.sp = s.sp + 2 ∧
    t.result = .ok cycles ∧ t = { s with pc := t.pc, sp := t.sp, result := t.result }

/-- `cond(cc)` (R107) on the four flags. -/
def condition (cc : Cond) (s : State) : Bool :=
  match cc with
  | .nz => decide (s.flagZ = false)
  | .z => s.flagZ
  | .nc => decide (s.flagC = false)
  | .c => s.flagC

/-! ## Classes of instructions (10_state.md §7) -/

/-- The instructions that may set PC to something else than the next instruction's address: transfers of
control, and an illegal opcode in `hang` mode. -/
def transfersControl (i : Instr) : Bool :=
  match i with
  | .jr _ | .jrNZ _ | .jrZ _ | .jrNC _ | .jrC _ => true
  | .jp _ | .jpNZ _ | .jpZ _ | .jpNC _ | .jpC _ | .jpHL => true
  | .call _ | .callNZ _ | .callZ _ | .callNC _ | .callC _ => true
  | .ret | .reti | .retNZ | .retZ | .retNC | .retC => true
  | .rst00 | .rst08 | .rst10 | .rst18 | .rst20 | .rst28 | .rst30 | .rst38 => true
  | .illegalD3 | .illegalDB | .illegalDD | .illegalE3 | .illegalE4 | .illegalEB => true
  | .illegalEC | .illegalED | .illegalF4 | .illegalFC | .illegalFD => true
  | _ => false

/-- The instructions that write SP. -/
def writesSP (i : Instr) : Bool :=
  match i with
  | .ldSPImm16 _ | .ldSPHL | .addSPe8 _ | .incSP | .decSP => true
  | .pushBC | .pushDE | .pushHL | .pushAF | .popBC | .popDE | .popHL | .popAF => true
  | .call _ | .callNZ _ | .callZ _ | .callNC _ | .callC _ => true
  | .ret | .reti | .retNZ | .retZ | .retNC | .retC => true
  | .rst00 | .rst08 | .rst10 | .rst18 | .rst20 | .rst28 | .rst30 | .rst38 => true
  | _ => false

/-- The operands of the CB instructions and of INC and DEC that are (HL), and every other instruction that
stores to memory. -/
def storesToMemory (i : Instr) : Bool :=
  match i with
  | .ldIndHLB | .ldIndHLC | .ldIndHLD | .ldIndHLE | .ldIndHLH | .ldIndHLL | .ldIndHLA | .ldIndHLImm8 _ => true
  | .ldIndBCA | .ldIndDEA | .ldIndHLIncA | .ldIndHLDecA | .ldhIndA8A _ | .ldIndCA => true
  | .ldIndA16A _ | .ldIndA16SP _ | .incIndHL | .decIndHL => true
  | .rlcIndHL | .rrcIndHL | .rlIndHL | .rrIndHL | .slaIndHL | .sraIndHL | .swapIndHL | .srlIndHL => true
  | .res0IndHL | .res1IndHL | .res2IndHL | .res3IndHL | .res4IndHL | .res5IndHL | .res6IndHL | .res7IndHL => true
  | .set0IndHL | .set1IndHL | .set2IndHL | .set3IndHL | .set4IndHL | .set5IndHL | .set6IndHL | .set7IndHL => true
  | .pushBC | .pushDE | .pushHL | .pushAF => true
  | .call _ | .callNZ _ | .callZ _ | .callNC _ | .callC _ => true
  | .rst00 | .rst08 | .rst10 | .rst18 | .rst20 | .rst28 | .rst30 | .rst38 => true
  | .prefixCB => true
  | _ => false

/-- The rows of the illegal opcodes with their bytes (R123). -/
def illegalRows : List (Instr × Byte) :=
  [(.illegalD3, 0xD3#8), (.illegalDB, 0xDB#8), (.illegalDD, 0xDD#8), (.illegalE3, 0xE3#8), (.illegalE4, 0xE4#8),
   (.illegalEB, 0xEB#8), (.illegalEC, 0xEC#8), (.illegalED, 0xED#8), (.illegalF4, 0xF4#8), (.illegalFC, 0xFC#8),
   (.illegalFD, 0xFD#8)]

/-- A byte that is packed BCD for a number below 100. -/
def bcd (n : Nat) : Byte := byteOf (n / 10 * 16 + n % 10)

/-- The three bytes at PC, the longest an instruction can be (R100). -/
def bytesAtPC (s : State) : List Byte := [s.readByte s.pc, s.readByte (s.pc + 1), s.readByte (s.pc + 2)]

end Sys2Proof.Claims

open Sys2Proof Sys2Proof.Machine Sys2Proof.Claims

/-! ## 8-bit arithmetic and logic (41_alu8.md) -/

/-- R200, R202 to R207: ADD and ADC, with a register, (HL) or an immediate. ADC adds the FC of before. -/
def Obligations.AddAdcResultFlagsFrame : Prop :=
  ∀ s : State,
    AluRows .add 0x80 0xC6 s (fun i v n => AddsToA i s v.toNat 0 n) ∧
    AluRows .adc 0x88 0xCE s (fun i v n => AddsToA i s v.toNat s.flagC.toNat n)

/-- R201, R208 to R213, R223 to R225: SUB, SBC and CP. CP sets the flags of SUB and keeps A. -/
def Obligations.SubSbcCpResultFlagsFrame : Prop :=
  ∀ s : State,
    AluRows .sub 0x90 0xD6 s (fun i v n => SubtractsFromA i s v.toNat 0 n false) ∧
    AluRows .sbc 0x98 0xDE s (fun i v n => SubtractsFromA i s v.toNat s.flagC.toNat n false) ∧
    AluRows .cp 0xB8 0xFE s (fun i v n => SubtractsFromA i s v.toNat 0 n true)

/-- R214 to R222: AND, XOR and OR; H is set by AND alone. -/
def Obligations.AndXorOrResultFlagsFrame : Prop :=
  ∀ s : State,
    AluRows .and 0xA0 0xE6 s (fun i v n => CombinesWithA i s v (· && ·) true n) ∧
    AluRows .xor 0xA8 0xEE s (fun i v n => CombinesWithA i s v (· ^^ ·) false n) ∧
    AluRows .or 0xB0 0xF6 s (fun i v n => CombinesWithA i s v (· || ·) false n)

/-- R226 to R229: 8-bit INC and DEC; FC is kept. -/
def Obligations.IncDecByteResultFlagsFrame : Prop :=
  ∀ (r : Operand8) (s : State),
    let old := (readOperand r s).toNat
    (encode (rowInc r) = [byteOf (0x04 + 8 * operandCode r)] ∧
      ∃ t, exec (rowInc r) s = .next t ∧ (operandAfter r s t).toNat = (old + 1) % 256 ∧
        HasFlags t (decide ((old + 1) % 256 = 0)) false (decide (old % 16 = 15)) s.flagC ∧
        t.result = .ok (cost r 1 3) ∧ OnlyOperandWritten r s t) ∧
    (encode (rowDec r) = [byteOf (0x05 + 8 * operandCode r)] ∧
      ∃ t, exec (rowDec r) s = .next t ∧ (operandAfter r s t).toNat = (old + 255) % 256 ∧
        HasFlags t (decide ((old + 255) % 256 = 0)) true (decide (old % 16 = 0)) s.flagC ∧
        t.result = .ok (cost r 1 3) ∧ OnlyOperandWritten r s t)

/-- R230: DAA, on every accumulator and every combination of N, H and C. -/
def Obligations.DecimalAdjustResultFlagsFrame : Prop :=
  ∀ s : State,
    let a := s.a.toNat
    let low := s.flagH || (!s.flagN && decide (a % 16 > 0x9))
    let high := s.flagC || (!s.flagN && decide (a > 0x99))
    let adj := (if low then 0x06 else 0) + (if high then 0x60 else 0)
    encode .daa = [0x27#8] ∧
    ∃ t, exec .daa s = .next t ∧
      t.a.toNat = (if s.flagN then (a + 256 - adj) % 256 else (a + adj) % 256) ∧
      HasFlags t (decide (t.a = 0)) s.flagN false high ∧
      t.result = .ok 1 ∧ t = { s with a := t.a, f := t.f, result := t.result }

/-- 95_test_vectors.md T4: after ADD A,B or SUB B of two BCD bytes, DAA leaves the BCD sum or difference
modulo 100, and the decimal carry or borrow in C. -/
def Obligations.DecimalAdjustIsDecimal : Prop :=
  ∀ (x y : Nat) (s : State), x < 100 → y < 100 → s.a = bcd x → s.b = bcd y →
    (∃ t u, exec .addAB s = .next t ∧ exec .daa t = .next u ∧
      u.a = bcd ((x + y) % 100) ∧ u.flagN = false ∧ u.flagC = decide (x + y ≥ 100)) ∧
    (∃ t u, exec .subB s = .next t ∧ exec .daa t = .next u ∧
      u.a = bcd ((x + 100 - y) % 100) ∧ u.flagN = true ∧ u.flagC = decide (x < y))

/-! ## 16-bit arithmetic (42_alu16.md) -/

/-- R250: ADD HL,rr; H from bit 11, C from bit 15, Z kept. -/
def Obligations.AddHLResultFlagsFrame : Prop :=
  ∀ (p : Pair) (s : State),
    let x := s.hl.toNat
    let y := (readPair p s).toNat
    encode (rowAddHL p) = [byteOf (0x09 + 16 * pairCode p)] ∧
    ∃ t, exec (rowAddHL p) s = .next t ∧ t.hl.toNat = (x + y) % 65536 ∧
      HasFlags t s.flagZ false (decide (x % 4096 + y % 4096 > 4095)) (decide (x + y > 65535)) ∧
      t.result = .ok 2 ∧ t = { s with h := t.h, l := t.l, f := t.f, result := t.result }

/-- R251, R252: INC rr and DEC rr write the pair, modulo 65,536, and no flag. -/
def Obligations.IncDecPairResultFrame : Prop :=
  ∀ (p : Pair) (s : State),
    let keeps := fun t : State =>
      (∀ q, q ≠ p → readPair q t = readPair q s) ∧ t.a = s.a ∧ t.f = s.f ∧ t.pc = s.pc ∧
        t.illegalMode = s.illegalMode ∧ t.result = .ok 2 ∧ ∀ x, t.readByte x = s.readByte x
    (encode (rowIncPair p) = [byteOf (0x03 + 16 * pairCode p)] ∧
      ∃ t, exec (rowIncPair p) s = .next t ∧
        (readPair p t).toNat = ((readPair p s).toNat + 1) % 65536 ∧ keeps t) ∧
    (encode (rowDecPair p) = [byteOf (0x0B + 16 * pairCode p)] ∧
      ∃ t, exec (rowDecPair p) s = .next t ∧
        (readPair p t).toNat = ((readPair p s).toNat + 65535) % 65536 ∧ keeps t)

/-! ## Rotates and shifts (43_rotate_shift.md) -/

/-- R300 to R303 with R304: RLCA, RRCA, RLA and RRA clear Z, N and H. -/
def Obligations.AccumulatorRotatesResultFlagsFrame : Prop :=
  ∀ s : State, ∀ row ∈ [(Instr.rlca, RotOp.rlc, 0x07#8), (.rrca, .rrc, 0x0F#8), (.rla, .rl, 0x17#8),
      (.rra, .rr, 0x1F#8)],
    encode row.1 = [row.2.2] ∧
    ∃ t, exec row.1 s = .next t ∧
      t.a.toNat = rotValue row.2.1 s.a.toNat s.flagC.toNat ∧
      HasFlags t false false false (rotCarry row.2.1 s.a.toNat) ∧
      t.result = .ok 1 ∧ t = { s with a := t.a, f := t.f, result := t.result }

/-- The odd rules R305 to R319 with R304: the CB rotates and shifts of a register. -/
def Obligations.RotateRegisterResultFlagsFrame : Prop :=
  ∀ (op : RotOp) (r : Operand8) (s : State), r ≠ .indHL →
    let v := (readOperand r s).toNat
    encode (rowRot op r) = [0xCB#8, byteOf (8 * rotCode op + operandCode r)] ∧
    ∃ t, exec (rowRot op r) s = .next t ∧
      (readOperand r t).toNat = rotValue op v s.flagC.toNat ∧
      HasFlags t (decide (rotValue op v s.flagC.toNat = 0)) false false (rotCarry op v) ∧
      t.result = .ok 2 ∧ OnlyOperandWritten r s t

/-- The even rules R306 to R320 with R304: the CB rotates and shifts of the byte at HL. -/
def Obligations.RotateMemoryResultFlagsFrame : Prop :=
  ∀ (op : RotOp) (s : State),
    let v := (s.readByte s.hl).toNat
    encode (rowRot op .indHL) = [0xCB#8, byteOf (8 * rotCode op + 6)] ∧
    ∃ t, exec (rowRot op .indHL) s = .next t ∧
      (t.readByte s.hl).toNat = rotValue op v s.flagC.toNat ∧
      HasFlags t (decide (rotValue op v s.flagC.toNat = 0)) false false (rotCarry op v) ∧
      t.result = .ok 4 ∧ MemoryKeptBut [s.hl] s t ∧
      t = { s with f := t.f, mem := t.mem, result := t.result }

/-- R321: the CB rotates of A move the bits as the accumulator rotates do; they set Z from the result and
take 2 cycles and 2 bytes instead of 1 and 1. -/
def Obligations.RotateAFormsDifferInZeroAndCost : Prop :=
  ∀ s : State, ∀ row ∈ [(Instr.rlcA, Instr.rlca), (.rrcA, .rrca), (.rlA, .rla), (.rrA, .rra)],
    (encode row.1).length = 2 ∧ (encode row.2).length = 1 ∧
    ∃ t u, exec row.1 s = .next t ∧ exec row.2 s = .next u ∧ t.a = u.a ∧ t.flagC = u.flagC ∧
      t.flagZ = decide (t.a = 0) ∧ u.flagZ = false ∧ t.result = .ok 2 ∧ u.result = .ok 1

/-- 95_test_vectors.md T5: SWAP applied twice gives back the byte. -/
def Obligations.SwapTwiceRestores : Prop :=
  ∀ (r : Operand8) (s : State),
    ∃ t u, exec (rowRot .swap r) s = .next t ∧ exec (rowRot .swap r) t = .next u ∧
      operandAfter r s u = readOperand r s ∧ OnlyOperandWritten r s u

/-! ## Bits (44_bit.md) -/

/-- R350, R351: BIT writes Z, N and H and nothing else. -/
def Obligations.BitTestFlagsFrame : Prop :=
  ∀ (i : BitIndex) (r : Operand8) (s : State),
    encode (rowBit i r) = [0xCB#8, byteOf (0x40 + 8 * bitCode i + operandCode r)] ∧
    ∃ t, exec (rowBit i r) s = .next t ∧
      HasFlags t (decide ((readOperand r s).toNat / 2 ^ bitCode i % 2 = 0)) false true s.flagC ∧
      t.result = .ok (cost r 2 3) ∧ t = { s with f := t.f, result := t.result }

/-- R352 to R355: RES clears and SET sets the one bit; no flag is written. -/
def Obligations.BitResetSetResultFrame : Prop :=
  ∀ (i : BitIndex) (r : Operand8) (s : State),
    let becomes := fun (t : State) (v : Bool) =>
      (∀ k, k < 8 → (operandAfter r s t).getLsbD k = if k = bitCode i then v else (readOperand r s).getLsbD k) ∧
        t.f = s.f ∧ t.result = .ok (cost r 2 4) ∧ OnlyOperandWritten r s t
    (encode (rowRes i r) = [0xCB#8, byteOf (0x80 + 8 * bitCode i + operandCode r)] ∧
      ∃ t, exec (rowRes i r) s = .next t ∧ becomes t false) ∧
    (encode (rowSet i r) = [0xCB#8, byteOf (0xC0 + 8 * bitCode i + operandCode r)] ∧
      ∃ t, exec (rowSet i r) s = .next t ∧ becomes t true)

/-! ## Loads and stores (45_load_store.md) -/

/-- R400 to R402: LD between registers and (HL), in every form but (HL) to (HL), which is HALT. -/
def Obligations.LoadOperandResultFrame : Prop :=
  ∀ (dst src : Operand8) (s : State), ¬(dst = .indHL ∧ src = .indHL) →
    encode (rowLd dst src) = [byteOf (0x40 + 8 * operandCode dst + operandCode src)] ∧
    ∃ t, exec (rowLd dst src) s = .next t ∧ operandAfter dst s t = readOperand src s ∧ t.f = s.f ∧
      t.result = .ok (if dst = .indHL ∨ src = .indHL then 2 else 1) ∧ OnlyOperandWritten dst s t

/-- R403 to R405: LD of an immediate byte or word. -/
def Obligations.LoadImmediateResultFrame : Prop :=
  (∀ (dst : Operand8) (d8 : Byte) (s : State),
    encode (rowLdImm8 dst d8) = [byteOf (0x06 + 8 * operandCode dst), d8] ∧
    ∃ t, exec (rowLdImm8 dst d8) s = .next t ∧ operandAfter dst s t = d8 ∧ t.f = s.f ∧
      t.result = .ok (cost dst 2 3) ∧ OnlyOperandWritten dst s t) ∧
  ∀ (p : Pair) (d16 : Word) (s : State),
    encode (rowLdImm16 p d16) = [byteOf (0x01 + 16 * pairCode p), lowByte d16, highByte d16] ∧
    ∃ t, exec (rowLdImm16 p d16) s = .next t ∧ readPair p t = d16 ∧
      (∀ q, q ≠ p → readPair q t = readPair q s) ∧ t.a = s.a ∧ t.f = s.f ∧ t.pc = s.pc ∧
      t.illegalMode = s.illegalMode ∧ t.result = .ok 3 ∧ ∀ x, t.readByte x = s.readByte x

/-- R406 to R413: the accumulator through BC, DE, HL+ and HL-. The access uses the HL of before, and HL
changes once, modulo 65,536. -/
def Obligations.IndirectLoadStoreResultFrame : Prop :=
  ∀ (m : Indirect) (s : State),
    let addr := match m with
      | .bc => s.bc
      | .de => s.de
      | .hlInc | .hlDec => s.hl
    let hl' := match m with
      | .bc | .de => s.hl.toNat
      | .hlInc => (s.hl.toNat + 1) % 65536
      | .hlDec => (s.hl.toNat + 65535) % 65536
    (encode (rowStoreInd m) = [byteOf (0x02 + 16 * indirectCode m)] ∧
      ∃ t, exec (rowStoreInd m) s = .next t ∧ t.readByte addr = s.a ∧ MemoryKeptBut [addr] s t ∧
        t.hl.toNat = hl' ∧ t.result = .ok 2 ∧
        t = { s with h := t.h, l := t.l, mem := t.mem, result := t.result }) ∧
    (encode (rowLoadInd m) = [byteOf (0x0A + 16 * indirectCode m)] ∧
      ∃ t, exec (rowLoadInd m) s = .next t ∧ t.a = s.readByte addr ∧ t.hl.toNat = hl' ∧ t.result = .ok 2 ∧
        t = { s with a := t.a, h := t.h, l := t.l, result := t.result })

/-- R414 to R419: the accumulator at 0xFF00 + a8, at 0xFF00 + C and at a16. -/
def Obligations.HighPageAbsoluteResultFrame : Prop :=
  ∀ (a8 : Byte) (a16 : Word) (s : State),
    let stores := fun (i : Instr) (addr : Word) (n : Nat) =>
      ∃ t, exec i s = .next t ∧ t.readByte addr = s.a ∧ MemoryKeptBut [addr] s t ∧ t.result = .ok n ∧
        t = { s with mem := t.mem, result := t.result }
    let loads := fun (i : Instr) (addr : Word) (n : Nat) =>
      ∃ t, exec i s = .next t ∧ t.a = s.readByte addr ∧ t.result = .ok n ∧
        t = { s with a := t.a, result := t.result }
    let high := fun n : Byte => BitVec.ofNat 16 (0xFF00 + n.toNat)
    (encode (.ldhIndA8A a8) = [0xE0#8, a8] ∧ stores (.ldhIndA8A a8) (high a8) 3) ∧
    (encode (.ldhAIndA8 a8) = [0xF0#8, a8] ∧ loads (.ldhAIndA8 a8) (high a8) 3) ∧
    (encode .ldIndCA = [0xE2#8] ∧ stores .ldIndCA (high s.c) 2) ∧
    (encode .ldAIndC = [0xF2#8] ∧ loads .ldAIndC (high s.c) 2) ∧
    (encode (.ldIndA16A a16) = [0xEA#8, lowByte a16, highByte a16] ∧ stores (.ldIndA16A a16) a16 4) ∧
    (encode (.ldAIndA16 a16) = [0xFA#8, lowByte a16, highByte a16] ∧ loads (.ldAIndA16 a16) a16 4)

/-- R420: LD (a16),SP stores the low byte of SP at a16 and the high byte at a16 + 1, which wraps. -/
def Obligations.StoreStackPointerResultFrame : Prop :=
  ∀ (a16 : Word) (s : State),
    encode (.ldIndA16SP a16) = [0x08#8, lowByte a16, highByte a16] ∧
    ∃ t, exec (.ldIndA16SP a16) s = .next t ∧
      (t.readByte a16).toNat = s.sp.toNat % 256 ∧ (t.readByte (a16 + 1)).toNat = s.sp.toNat / 256 ∧
      MemoryKeptBut [a16, a16 + 1] s t ∧ t.result = .ok 5 ∧ t = { s with mem := t.mem, result := t.result }

/-- R421 to R424: LD SP,HL, ADD SP,e8 and LD HL,SP+e8. H and C of the last two come from the unsigned
addition of SP's low byte and the raw immediate byte, whatever the sign. -/
def Obligations.StackPointerArithmeticResultFlagsFrame : Prop :=
  ∀ (e8 : Byte) (s : State),
    let sum := (s.sp.toNat + (if e8.toNat < 128 then e8.toNat else e8.toNat + 0xFF00)) % 65536
    let half := decide (s.sp.toNat % 16 + e8.toNat % 16 > 15)
    let carry := decide (s.sp.toNat % 256 + e8.toNat > 255)
    (encode .ldSPHL = [0xF9#8] ∧
      ∃ t, exec .ldSPHL s = .next t ∧ t.sp = s.hl ∧ t.result = .ok 2 ∧
        t = { s with sp := t.sp, result := t.result }) ∧
    (encode (.addSPe8 e8) = [0xE8#8, e8] ∧
      ∃ t, exec (.addSPe8 e8) s = .next t ∧ t.sp.toNat = sum ∧ HasFlags t false false half carry ∧
        t.result = .ok 4 ∧ t = { s with sp := t.sp, f := t.f, result := t.result }) ∧
    (encode (.ldHLSPe8 e8) = [0xF8#8, e8] ∧
      ∃ t, exec (.ldHLSPe8 e8) s = .next t ∧ t.hl.toNat = sum ∧ HasFlags t false false half carry ∧
        t.result = .ok 3 ∧ t = { s with h := t.h, l := t.l, f := t.f, result := t.result })

/-! ## Control flow and the stack (46_control.md) -/

/-- R450, R451: what Push16 and Pop16 do, and that Pop16 reverses Push16; SP wraps. -/
def Obligations.PushPopPrimitives : Prop :=
  ∀ (v : Word) (s : State),
    (Pushed v s (push16 v s) ∧ (push16 v s).readWord (push16 v s).sp = v ∧
      push16 v s = { s with sp := (push16 v s).sp, mem := (push16 v s).mem }) ∧
    pop16 s = (joinBytes (s.readByte (s.sp + 1)) (s.readByte s.sp), { s with sp := s.sp + 2 }) ∧
    (pop16 (push16 v s)).1 = v ∧ (pop16 (push16 v s)).2.sp = s.sp

/-- R452, R453: JR and JR cc. The target is PC plus the signed displacement, modulo 65,536. -/
def Obligations.RelativeJumpTargetFrame : Prop :=
  ∀ (e8 : Byte) (s : State),
    let target := BitVec.ofNat 16 (s.pc.toNat + (if e8.toNat < 128 then e8.toNat else e8.toNat + 0xFF00))
    (encode (.jr e8) = [0x18#8, e8] ∧ JumpsTo (.jr e8) s target 3) ∧
    ∀ cc, encode (rowJr cc e8) = [byteOf (0x20 + 8 * condCode cc), e8] ∧
      (if condition cc s then JumpsTo (rowJr cc e8) s target 3 else DoesNothing (rowJr cc e8) s 2)

/-- R454 to R456: JP, JP cc and JP HL. -/
def Obligations.AbsoluteJumpTargetFrame : Prop :=
  ∀ (a16 : Word) (s : State),
    (encode (.jp a16) = [0xC3#8, lowByte a16, highByte a16] ∧ JumpsTo (.jp a16) s a16 4) ∧
    (encode .jpHL = [0xE9#8] ∧ JumpsTo .jpHL s s.hl 1) ∧
    ∀ cc, encode (rowJp cc a16) = [byteOf (0xC2 + 8 * condCode cc), lowByte a16, highByte a16] ∧
      (if condition cc s then JumpsTo (rowJp cc a16) s a16 4 else DoesNothing (rowJp cc a16) s 3)

/-- R457, R458, R462: CALL, CALL cc and RST push the address of the next instruction. -/
def Obligations.CallRestartPushTargetFrame : Prop :=
  ∀ (a16 : Word) (s : State),
    (encode (.call a16) = [0xCD#8, lowByte a16, highByte a16] ∧ Calls (.call a16) s a16 6) ∧
    (∀ cc, encode (rowCall cc a16) = [byteOf (0xC4 + 8 * condCode cc), lowByte a16, highByte a16] ∧
      (if condition cc s then Calls (rowCall cc a16) s a16 6 else DoesNothing (rowCall cc a16) s 3)) ∧
    ∀ t, encode (rowRst t) = [byteOf (0xC7 + 8 * restartCode t)] ∧
      Calls (rowRst t) s (BitVec.ofNat 16 (8 * restartCode t)) 4

/-- R459 to R461: RET, RET cc and RETI, which does what RET does. -/
def Obligations.ReturnTargetFrame : Prop :=
  ∀ s : State,
    (encode .ret = [0xC9#8] ∧ Returns .ret s 4) ∧ (encode .reti = [0xD9#8] ∧ Returns .reti s 4) ∧
    ∀ cc, encode (rowRet cc) = [byteOf (0xC0 + 8 * condCode cc)] ∧
      (if condition cc s then Returns (rowRet cc) s 5 else DoesNothing (rowRet cc) s 2)

/-- R463 to R465: PUSH and POP. POP AF loads the four flags from the byte at the lower address and drops its
low nibble. -/
def Obligations.PushPopResultFrame : Prop :=
  ∀ (q : StackPair) (s : State),
    let popped := joinBytes (s.readByte (s.sp + 1)) (s.readByte s.sp)
    (encode (rowPush q) = [byteOf (0xC5 + 16 * stackPairCode q)] ∧
      ∃ t, exec (rowPush q) s = .next t ∧ Pushed (readStackPair q s) s t ∧ t.result = .ok 4 ∧
        t = { s with sp := t.sp, mem := t.mem, result := t.result }) ∧
    (encode (rowPop q) = [byteOf (0xC1 + 16 * stackPairCode q)] ∧
      ∃ t, exec (rowPop q) s = .next t ∧ t.sp = s.sp + 2 ∧ t.result = .ok 3 ∧
        (match q with
          | .bc => t.bc = popped ∧ t = { s with b := t.b, c := t.c, sp := t.sp, result := t.result }
          | .de => t.de = popped ∧ t = { s with d := t.d, e := t.e, sp := t.sp, result := t.result }
          | .hl => t.hl = popped ∧ t = { s with h := t.h, l := t.l, sp := t.sp, result := t.result }
          | .af => t.a = highByte popped ∧ t.f.toNat = (lowByte popped).toNat / 16 * 16 ∧
              t = { s with a := t.a, f := t.f, sp := t.sp, result := t.result }))

/-- R465, corner case: PUSH AF and then POP AF restores A, the flags and SP. -/
def Obligations.PushAFPopAFRestores : Prop :=
  ∀ s : State, ∃ t u, exec .pushAF s = .next t ∧ exec .popAF t = .next u ∧
    u.af = s.af ∧ u.sp = s.sp ∧ HasFlags u s.flagZ s.flagN s.flagH s.flagC

/-! ## Miscellaneous, the prefix and the illegal opcodes (47_misc.md, 60_exceptions.md) -/

/-- R500 to R504: NOP, STOP, HALT, DI and EI change only PC, by the fetch, and cost 1; STOP's operand byte
may be any. The last two clauses say so of the step that finds one of them at PC: HALT and STOP stop nothing. -/
def Obligations.InertInstructionsChangeNothing : Prop :=
  ∀ (n : Byte) (s : State),
    (encode .nop = [0x00#8] ∧ DoesNothing .nop s 1) ∧ (encode (.stop n) = [0x10#8, n] ∧ DoesNothing (.stop n) s 1) ∧
    (encode .halt = [0x76#8] ∧ DoesNothing .halt s 1) ∧ (encode .di = [0xF3#8] ∧ DoesNothing .di s 1) ∧
    (encode .ei = [0xFB#8] ∧ DoesNothing .ei s 1) ∧
    (s.readByte s.pc ∈ [0x00#8, 0x76#8, 0xF3#8, 0xFB#8] →
      step s = .next { s with pc := s.pc + 1, result := .ok 1 }) ∧
    (s.readByte s.pc = 0x10#8 → step s = .next { s with pc := s.pc + 2, result := .ok 1 })

/-- R505 to R507: CPL, SCF and CCF. -/
def Obligations.ComplementCarryFlagsFrame : Prop :=
  ∀ s : State,
    (encode .cpl = [0x2F#8] ∧
      ∃ t, exec .cpl s = .next t ∧ t.a.toNat = 255 - s.a.toNat ∧ HasFlags t s.flagZ true true s.flagC ∧
        t.result = .ok 1 ∧ t = { s with a := t.a, f := t.f, result := t.result }) ∧
    (encode .scf = [0x37#8] ∧
      ∃ t, exec .scf s = .next t ∧ HasFlags t s.flagZ false false true ∧
        t.result = .ok 1 ∧ t = { s with f := t.f, result := t.result }) ∧
    (encode .ccf = [0x3F#8] ∧
      ∃ t, exec .ccf s = .next t ∧ HasFlags t s.flagZ false false (!s.flagC) ∧
        t.result = .ok 1 ∧ t = { s with f := t.f, result := t.result })

/-- R508: as a step the prefix and the byte after it are one instruction, the CB-table entry that byte selects,
which ends in one count of 2, 3 or 4. R508 calls the prefix no instruction by itself: that the row `prefixCB`
alone fetches one further byte and performs the entry it selects is the model's choice (log entry 6). -/
def Obligations.PrefixRunsTableEntry : Prop :=
  (∀ s : State,
    exec .prefixCB s = exec (decodeCB (s.readByte s.pc)) { s with pc := s.pc + 1 } ∧
    ∃ t, exec .prefixCB s = .next t ∧ (t.result = .ok 2 ∨ t.result = .ok 3 ∨ t.result = .ok 4) ∧
      t.pc = s.pc + 1) ∧
  ∀ s : State, s.readByte s.pc = 0xCB#8 → step s = exec .prefixCB { s with pc := s.pc + 1 }

/-- R509, R601: an illegal opcode in the opcode position, in each of the three modes; nothing but PC changes,
and no further byte is fetched. That the outcome `illegal(op)` is a next state with that `result` is the model's
choice (log entry 1). -/
def Obligations.IllegalOpcodeOutcome : Prop :=
  ∀ row ∈ illegalRows, ∀ s : State,
    encode row.1 = [row.2] ∧
    exec row.1 s = .next { s with
      pc := if s.illegalMode = .hang then s.pc - 1 else s.pc
      result := if s.illegalMode = .nop then .ok 1 else .illegal row.2 } ∧
    (s.readByte s.pc = row.2 → step s = .next { s with
      pc := if s.illegalMode = .hang then s.pc else s.pc + 1
      result := if s.illegalMode = .nop then .ok 1 else .illegal row.2 })

/-- R600: a step reports `illegal` exactly when an illegal opcode stands at PC outside `nop` mode, recording that
byte and changing no state except PC; otherwise it reports a count of at least 1 (R42, R128). That a step which
reports `illegal` ends in a next state, as every other step does, is the model's choice (log entry 1). -/
def Obligations.OnlyIllegalOpcodesRaise : Prop :=
  ∀ s : State, ∃ t, step s = .next t ∧
    (if s.readByte s.pc ∈ illegalOpcodes ∧ s.illegalMode ≠ .nop then
      t.result = .illegal (s.readByte s.pc) ∧ t = { s with pc := t.pc, result := t.result }
    else ∃ n, t.result = .ok n ∧ 1 ≤ n)

/-! ## Fetch, decode and encode (30_encoding.md) -/

/-- R112, R113: the two fetches. -/
def Obligations.FetchAdvancesPC : Prop :=
  ∀ s : State,
    fetchByte s = (s.readByte s.pc, { s with pc := s.pc + 1 }) ∧
    (fetchWord s).1.toNat = (s.readByte s.pc).toNat + 256 * (s.readByte (s.pc + 1)).toNat ∧
    (fetchWord s).2 = { s with pc := s.pc + 2 }

/-- R125: when the bytes at PC decode to an instruction, a step is exec of it with PC moved past its bytes. Well
formed means any row but the prefix alone (the model's choice, log entry 6). -/
def Obligations.StepRunsDecodedInstruction : Prop :=
  ∀ (s : State) (i : Instr) (rest : List Byte), decode (bytesAtPC s) = .ok (i, rest) →
    i.wellFormed = true ∧ step s = exec i { s with pc := s.pc + BitVec.ofNat 16 (encode i).length }

/-- Words written out from the opcode maps decode to the rows the maps name (R131, R133, R134). -/
def Obligations.MapWordsDecode : Prop :=
  ∀ pair ∈ [([0x80#8], Instr.addAB), ([0xC3#8, 0x34#8, 0x12#8], .jp 0x1234#16), ([0xCB#8, 0x7F#8], .bit7A),
      ([0x76#8], .halt), ([0x36#8, 0x77#8], .ldIndHLImm8 0x77#8), ([0xF9#8], .ldSPHL), ([0xE9#8], .jpHL),
      ([0x08#8, 0x00#8, 0xC0#8], .ldIndA16SP 0xC000#16), ([0xD3#8], .illegalD3), ([0xCB#8, 0x36#8], .swapIndHL)],
    decode pair.1 = .ok (pair.2, [])

/-- R100, R132 and the maps R133, R134, from bytes to instructions and back: the instruction the tables hold for
an opcode byte encodes to that byte and the immediate bytes its length gives it. -/
def Obligations.EncodeOfDecodedBytes : Prop :=
  (∀ op lo hi : Byte, op ≠ 0xCB#8 → encode (decodeBase op lo hi) = [op, lo, hi].take (instrLength op)) ∧
  ∀ cb : Byte, encode (decodeCB cb) = [0xCB#8, cb]

/-- Decoding an encoded instruction gives it back, whatever bytes follow, with every operand at every value. Well
formed means any row but the prefix alone (the model's choice, log entry 6). -/
def Obligations.DecodeOfEncodedInstruction : Prop :=
  ∀ (i : Instr) (rest : List Byte), i.wellFormed = true → decode (encode i ++ rest) = .ok (i, rest)

/-- R126: decoding is total: any three bytes begin with exactly one whole instruction, which leaves over what
its length does not cover. Well formed means any row but the prefix alone (the model's choice, log entry 6). -/
def Obligations.EveryByteSequenceDecodes : Prop :=
  ∀ (op lo hi : Byte) (rest : List Byte), ∃ i left, decode (op :: lo :: hi :: rest) = .ok (i, left) ∧
    i.wellFormed = true ∧ encode i ++ left = op :: lo :: hi :: rest ∧
    ∀ j left', j.wellFormed = true → decode (op :: lo :: hi :: rest) = .ok (j, left') → j = i

/-! ## State, reset and the host's port (10_state.md, 70_reset_and_hazards.md) -/

/-- R46, R700, R701: `create` zeroes every register and leaves the caller's memory as it is; the first fetch is
at address 0. -/
def Obligations.CreateZeroesRegistersKeepsMemory : Prop :=
  ∀ (mode : IllegalOpcodeMode) (mem0 : Memory),
    let s := State.create mode mem0
    s.a = 0 ∧ s.f = 0 ∧ s.b = 0 ∧ s.c = 0 ∧ s.d = 0 ∧ s.e = 0 ∧ s.h = 0 ∧ s.l = 0 ∧ s.sp = 0 ∧ s.pc = 0 ∧
      s.af = 0 ∧ s.bc = 0 ∧ s.de = 0 ∧ s.hl = 0 ∧ HasFlags s false false false false ∧ s.mem = mem0 ∧
      (fetchByte s).1 = Memory.read mem0 0

/-- The model's choices at reset (log entries 2, 4 and 5): mode `fault`, a memory that lists nothing, and no
step reported yet; the registers are as R46 says, and the invariant holds. -/
def Obligations.ResetMeetsTheInvariant : Prop :=
  State.reset.Inv ∧ State.reset = State.create .fault [] ∧ State.reset.result = .noStep ∧
    ∀ x : Word, State.reset.readByte x = Config.unlistedByte

/-- The invariant: a step from any state whose memory is canonical and whose F has a low nibble of 0 (R35)
ends in such a state. -/
def Obligations.StepKeepsTheInvariant : Prop :=
  ∀ s t : State, s.Inv → step s = .next t → t.Inv

/-- R32, R33: a pair is its two bytes, high byte first; writing a pair writes the two bytes, and writing the two
bytes writes the pair; AF drops the low nibble. -/
def Obligations.PairViewsAreBijective : Prop :=
  ∀ (s : State) (v : Word) (x y : Byte),
    (s.bc.toNat = s.b.toNat * 256 + s.c.toNat ∧ s.de.toNat = s.d.toNat * 256 + s.e.toNat ∧
      s.hl.toNat = s.h.toNat * 256 + s.l.toNat ∧ s.af.toNat = s.a.toNat * 256 + s.f.toNat / 16 * 16) ∧
    (s.setBC v = { s with b := highByte v, c := lowByte v } ∧ (s.setBC v).bc = v ∧
      { s with b := x, c := y } = s.setBC (joinBytes x y)) ∧
    (s.setDE v = { s with d := highByte v, e := lowByte v } ∧ (s.setDE v).de = v ∧
      { s with d := x, e := y } = s.setDE (joinBytes x y)) ∧
    (s.setHL v = { s with h := highByte v, l := lowByte v } ∧ (s.setHL v).hl = v ∧
      { s with h := x, l := y } = s.setHL (joinBytes x y)) ∧
    ((s.setAF v).a = highByte v ∧ (s.setAF v).f.toNat = (lowByte v).toNat / 16 * 16 ∧
      (s.setAF v).af = v &&& 0xFFF0#16 ∧ s.setAF v = { s with a := (s.setAF v).a, f := (s.setAF v).f } ∧
      { s.writeF y with a := x } = s.setAF (joinBytes x y))

/-- R35: bits 3..0 of F read 0 in any state, and no write path can set them: an instruction leaves F as it is or
writes it with a low nibble of 0, and a host write of F, AF or a flag writes a low nibble of 0. -/
def Obligations.LowNibbleOfFIsAlwaysZero : Prop :=
  (∀ s : State, s.readF &&& 0x0F#8 = 0#8) ∧
  (∀ (i : Instr) (s t : State), exec i s = .next t → t.f = s.f ∨ t.f &&& 0x0F#8 = 0#8) ∧
  (∀ (v : Byte) (s : State), (hostWriteByteRegister .f v s).f = v &&& 0xF0#8) ∧
  (∀ (v : Word) (s : State), (hostWritePair .af v s).f &&& 0x0F#8 = 0#8) ∧
  ∀ (x : FlagName) (v : Bool) (s : State), (hostWriteFlag x v s).f &&& 0x0F#8 = 0#8

/-- R44: what the host writes it reads back, of every byte register, pair, memory byte, SP and PC, and nothing else
changes; F and AF drop their low nibble. A write of PC sets the address of the next fetch. Flags are spoken of in
the next statement. -/
def Obligations.HostWritesReadBack : Prop :=
  ∀ s : State,
    (∀ (r : ByteRegister) (v : Byte),
      hostReadByteRegister r (hostWriteByteRegister r v s) = (if r = .f then v &&& 0xF0#8 else v) ∧
      (∀ q, q ≠ r → hostReadByteRegister q (hostWriteByteRegister r v s) = hostReadByteRegister q s) ∧
      hostReadSP (hostWriteByteRegister r v s) = hostReadSP s ∧ hostReadPC (hostWriteByteRegister r v s) = hostReadPC s ∧
      (hostWriteByteRegister r v s).mem = s.mem ∧ (hostWriteByteRegister r v s).illegalMode = s.illegalMode ∧
      (hostWriteByteRegister r v s).result = s.result) ∧
    (∀ (p : PairName) (v : Word),
      hostReadPair p (hostWritePair p v s) = (if p = .af then v &&& 0xFFF0#16 else v) ∧
      (∀ q, q ≠ p → hostReadPair q (hostWritePair p v s) = hostReadPair q s) ∧
      hostReadSP (hostWritePair p v s) = hostReadSP s ∧ hostReadPC (hostWritePair p v s) = hostReadPC s ∧
      (hostWritePair p v s).mem = s.mem ∧ (hostWritePair p v s).illegalMode = s.illegalMode ∧
      (hostWritePair p v s).result = s.result) ∧
    (∀ (x y : Word) (v : Byte),
      hostReadMemory y (hostWriteMemory x v s) = (if y = x then v else hostReadMemory y s) ∧
      hostWriteMemory x v s = { s with mem := (hostWriteMemory x v s).mem }) ∧
    ∀ v : Word, hostReadSP (hostWriteSP v s) = v ∧ hostReadPC (hostWritePC v s) = v ∧
      hostReadPC (hostWriteSP v s) = hostReadPC s ∧ hostReadSP (hostWritePC v s) = hostReadSP s ∧
      hostWriteSP v s = { s with sp := v } ∧ hostWritePC v s = { s with pc := v } ∧
      (fetchByte (hostWritePC v s)).1 = s.readByte v

/-- R45: writing one flag changes it alone; the other three flags and everything but F are unchanged. -/
def Obligations.HostFlagWriteChangesOneFlag : Prop :=
  ∀ (x : FlagName) (v : Bool) (s : State),
    hostReadFlag x (hostWriteFlag x v s) = v ∧
    (∀ y, y ≠ x → hostReadFlag y (hostWriteFlag x v s) = hostReadFlag y s) ∧
    hostWriteFlag x v s = { s with f := (hostWriteFlag x v s).f }

/-! ## Memory (20_memory.md) -/

/-- R73, R75: a byte write is seen by every later read and by no other address; a 16-bit access is two byte
accesses, the low byte at the address and the high byte at the next, which wraps. -/
def Obligations.MemoryAccessesReadBack : Prop :=
  ∀ (s : State) (x : Word),
    (∀ (v : Byte) (y : Word), (s.writeByte x v).readByte y = if y = x then v else s.readByte y) ∧
    ((s.readWord x).toNat = (s.readByte (x + 1)).toNat * 256 + (s.readByte x).toNat) ∧
    ∀ v : Word, (s.writeWord x v).readWord x = v ∧ (s.writeWord x v).readByte x = lowByte v ∧
      (s.writeWord x v).readByte (x + 1) = highByte v ∧ MemoryKeptBut [x, x + 1] s (s.writeWord x v)

/-- R81: `MEM0` may be any function from addresses to bytes: each is held by a memory in canonical form, so a
statement about every state is one about every launch memory. -/
def Obligations.EveryLaunchMemoryIsHeld : Prop :=
  ∀ mem0 : Word → Byte, ∃ m : Memory, Memory.wf m = true ∧ ∀ x, Memory.read m x = mem0 x

/-- The canonical form (the model's own, log entry 4): two memories in it that read alike are the same data. -/
def Obligations.CanonicalMemoriesReadingAlikeAreEqual : Prop :=
  ∀ m n : Memory, Memory.wf m = true → Memory.wf n = true → (∀ x, Memory.read m x = Memory.read n x) → m = n

/-- R85, R705: a store is seen by the very next fetch. LD (HL),d8 with HL at the next instruction rewrites the
instruction the next step runs. -/
def Obligations.StoreIsSeenByTheNextFetch : Prop :=
  ∀ (v : Byte) (s : State), s.hl = s.pc →
    ∃ t, exec (.ldIndHLImm8 v) s = .next t ∧ t.readByte t.pc = v ∧
      (instrLength v = 1 → step t = exec (decodeBase v 0 0) { t with pc := t.pc + 1 })

/-! ## Whole-machine rules -/

/-- R39: an instruction that transfers no control leaves PC at its own address plus its length. -/
def Obligations.NextInstructionFollows : Prop :=
  ∀ s t : State, step s = .next t → transfersControl (fetchInstr s).1 = false →
    t.pc = s.pc + BitVec.ofNat 16 (encode (fetchInstr s).1).length

/-- R127, R706: the count each step returns, against the spec's own two tables: for a base opcode the taken
figure when `cond(cc)` holds and the not-taken figure when it does not, for a CB instruction the one figure of
the CB table. An illegal opcode ends in a next state by the model's choice (log entry 1), and its count in `nop`
mode is R509's. -/
def Obligations.CycleCountsFollowTheTables : Prop :=
  ∀ s : State,
    let op := s.readByte s.pc
    let cb := s.readByte (s.pc + 1)
    ∃ t, step s = .next t ∧
      (if op = 0xCB#8 then t.result = .ok (cbCycles cb)
      else if op ∈ illegalOpcodes then s.illegalMode = .nop → t.result = .ok 1
      else t.result = .ok (if condition (condOf (fieldY op % 4)) s then (baseCycles op).1 else (baseCycles op).2))

/-- R707, T2: every conditional transfer costs more taken than not taken. -/
def Obligations.TakenCostsMoreThanNotTaken : Prop :=
  ∀ (cc : Cond) (e8 : Byte) (a16 : Word) (s u : State), condition cc s = true → condition cc u = false →
    ∀ i ∈ [rowJr cc e8, rowJp cc a16, rowCall cc a16, rowRet cc],
      ∃ t v n k, exec i s = .next t ∧ exec i u = .next v ∧ t.result = .ok n ∧ v.result = .ok k ∧ k < n

/-- 10_state.md §7: an instruction outside the SP row of that table leaves SP. -/
def Obligations.OnlyListedInstructionsWriteSP : Prop :=
  ∀ (i : Instr) (s t : State), exec i s = .next t → writesSP i = false → t.sp = s.sp

/-- 10_state.md §7, 20_memory.md R77: an instruction outside the memory row of that table leaves every byte. The
prefix row counts as listed, since it may run a listed one (log entry 6). -/
def Obligations.OnlyListedInstructionsStore : Prop :=
  ∀ (i : Instr) (s t : State), exec i s = .next t → storesToMemory i = false →
    ∀ x, t.readByte x = s.readByte x

/-- R608, R706: no instruction reads the count a step returned: exec does the same whatever `result` holds (the
model's own field, log entry 5). -/
def Obligations.NoInstructionReadsTheResult : Prop :=
  ∀ (i : Instr) (s : State) (r : StepResult), exec i { s with result := r } = exec i s

/-- The launch parameter (log entry 2) never changes, and only illegal opcodes look at it: any other instruction
does the same in every mode. -/
def Obligations.LaunchParameterOnlyGuidesIllegalOpcodes : Prop :=
  (∀ (i : Instr) (s t : State), exec i s = .next t → t.illegalMode = s.illegalMode) ∧
  ∀ (i : Instr) (s : State) (m : IllegalOpcodeMode), (∀ row ∈ illegalRows, row.1 ≠ i) →
    ∃ t, exec i s = .next t ∧ exec i { s with illegalMode := m } = .next { t with illegalMode := m }
end

