-- ==== Sys2Proof/Laws/State.lean ====
section
/-! SUPPORT. The small lemmas of State: for each named update, what each field and each view is after it,
and each view of a state written out. All are true by rfl and are simp lemmas, so that no proof about an
instruction unfolds a record update. -/

namespace Sys2Proof.Machine

/-! ## The views of a state written out -/

@[simp] theorem State.flagZ_mk (a f b c d e h l : Byte) (sp pc : Word) (mem : Memory) (im : IllegalOpcodeMode) (r : StepResult) :
    State.flagZ ⟨a, f, b, c, d, e, h, l, sp, pc, mem, im, r⟩ = f.getLsbD 7 := rfl

@[simp] theorem State.flagN_mk (a f b c d e h l : Byte) (sp pc : Word) (mem : Memory) (im : IllegalOpcodeMode) (r : StepResult) :
    State.flagN ⟨a, f, b, c, d, e, h, l, sp, pc, mem, im, r⟩ = f.getLsbD 6 := rfl

@[simp] theorem State.flagH_mk (a f b c d e h l : Byte) (sp pc : Word) (mem : Memory) (im : IllegalOpcodeMode) (r : StepResult) :
    State.flagH ⟨a, f, b, c, d, e, h, l, sp, pc, mem, im, r⟩ = f.getLsbD 5 := rfl

@[simp] theorem State.flagC_mk (a f b c d e h l : Byte) (sp pc : Word) (mem : Memory) (im : IllegalOpcodeMode) (r : StepResult) :
    State.flagC ⟨a, f, b, c, d, e, h, l, sp, pc, mem, im, r⟩ = f.getLsbD 4 := rfl

@[simp] theorem State.readF_mk (a f b c d e h l : Byte) (sp pc : Word) (mem : Memory) (im : IllegalOpcodeMode) (r : StepResult) :
    State.readF ⟨a, f, b, c, d, e, h, l, sp, pc, mem, im, r⟩ = f &&& 0xF0#8 := rfl

@[simp] theorem State.af_mk (a f b c d e h l : Byte) (sp pc : Word) (mem : Memory) (im : IllegalOpcodeMode) (r : StepResult) :
    State.af ⟨a, f, b, c, d, e, h, l, sp, pc, mem, im, r⟩ = joinBytes a (f &&& 0xF0#8) := rfl

@[simp] theorem State.bc_mk (a f b c d e h l : Byte) (sp pc : Word) (mem : Memory) (im : IllegalOpcodeMode) (r : StepResult) :
    State.bc ⟨a, f, b, c, d, e, h, l, sp, pc, mem, im, r⟩ = joinBytes b c := rfl

@[simp] theorem State.de_mk (a f b c d e h l : Byte) (sp pc : Word) (mem : Memory) (im : IllegalOpcodeMode) (r : StepResult) :
    State.de ⟨a, f, b, c, d, e, h, l, sp, pc, mem, im, r⟩ = joinBytes d e := rfl

@[simp] theorem State.hl_mk (a f b c d e h l : Byte) (sp pc : Word) (mem : Memory) (im : IllegalOpcodeMode) (r : StepResult) :
    State.hl ⟨a, f, b, c, d, e, h, l, sp, pc, mem, im, r⟩ = joinBytes h l := rfl

/-! ## writeByte -/

@[simp] theorem State.writeByte_a (s : State) (x : Word) (v : Byte) : (s.writeByte x v).a = s.a := rfl

@[simp] theorem State.writeByte_f (s : State) (x : Word) (v : Byte) : (s.writeByte x v).f = s.f := rfl

@[simp] theorem State.writeByte_b (s : State) (x : Word) (v : Byte) : (s.writeByte x v).b = s.b := rfl

@[simp] theorem State.writeByte_c (s : State) (x : Word) (v : Byte) : (s.writeByte x v).c = s.c := rfl

@[simp] theorem State.writeByte_d (s : State) (x : Word) (v : Byte) : (s.writeByte x v).d = s.d := rfl

@[simp] theorem State.writeByte_e (s : State) (x : Word) (v : Byte) : (s.writeByte x v).e = s.e := rfl

@[simp] theorem State.writeByte_h (s : State) (x : Word) (v : Byte) : (s.writeByte x v).h = s.h := rfl

@[simp] theorem State.writeByte_l (s : State) (x : Word) (v : Byte) : (s.writeByte x v).l = s.l := rfl

@[simp] theorem State.writeByte_sp (s : State) (x : Word) (v : Byte) : (s.writeByte x v).sp = s.sp := rfl

@[simp] theorem State.writeByte_pc (s : State) (x : Word) (v : Byte) : (s.writeByte x v).pc = s.pc := rfl

@[simp] theorem State.writeByte_mem (s : State) (x : Word) (v : Byte) : (s.writeByte x v).mem = Memory.write s.mem x v := rfl

@[simp] theorem State.writeByte_illegalMode (s : State) (x : Word) (v : Byte) : (s.writeByte x v).illegalMode = s.illegalMode := rfl

@[simp] theorem State.writeByte_result (s : State) (x : Word) (v : Byte) : (s.writeByte x v).result = s.result := rfl

@[simp] theorem State.writeByte_flagZ (s : State) (x : Word) (v : Byte) : (s.writeByte x v).flagZ = s.flagZ := rfl

@[simp] theorem State.writeByte_flagN (s : State) (x : Word) (v : Byte) : (s.writeByte x v).flagN = s.flagN := rfl

@[simp] theorem State.writeByte_flagH (s : State) (x : Word) (v : Byte) : (s.writeByte x v).flagH = s.flagH := rfl

@[simp] theorem State.writeByte_flagC (s : State) (x : Word) (v : Byte) : (s.writeByte x v).flagC = s.flagC := rfl

@[simp] theorem State.writeByte_readF (s : State) (x : Word) (v : Byte) : (s.writeByte x v).readF = s.readF := rfl

@[simp] theorem State.writeByte_af (s : State) (x : Word) (v : Byte) : (s.writeByte x v).af = s.af := rfl

@[simp] theorem State.writeByte_bc (s : State) (x : Word) (v : Byte) : (s.writeByte x v).bc = s.bc := rfl

@[simp] theorem State.writeByte_de (s : State) (x : Word) (v : Byte) : (s.writeByte x v).de = s.de := rfl

@[simp] theorem State.writeByte_hl (s : State) (x : Word) (v : Byte) : (s.writeByte x v).hl = s.hl := rfl

/-! ## writeF -/

@[simp] theorem State.writeF_a (s : State) (v : Byte) : (s.writeF v).a = s.a := rfl

@[simp] theorem State.writeF_f (s : State) (v : Byte) : (s.writeF v).f = v &&& 0xF0#8 := rfl

@[simp] theorem State.writeF_b (s : State) (v : Byte) : (s.writeF v).b = s.b := rfl

@[simp] theorem State.writeF_c (s : State) (v : Byte) : (s.writeF v).c = s.c := rfl

@[simp] theorem State.writeF_d (s : State) (v : Byte) : (s.writeF v).d = s.d := rfl

@[simp] theorem State.writeF_e (s : State) (v : Byte) : (s.writeF v).e = s.e := rfl

@[simp] theorem State.writeF_h (s : State) (v : Byte) : (s.writeF v).h = s.h := rfl

@[simp] theorem State.writeF_l (s : State) (v : Byte) : (s.writeF v).l = s.l := rfl

@[simp] theorem State.writeF_sp (s : State) (v : Byte) : (s.writeF v).sp = s.sp := rfl

@[simp] theorem State.writeF_pc (s : State) (v : Byte) : (s.writeF v).pc = s.pc := rfl

@[simp] theorem State.writeF_mem (s : State) (v : Byte) : (s.writeF v).mem = s.mem := rfl

@[simp] theorem State.writeF_illegalMode (s : State) (v : Byte) : (s.writeF v).illegalMode = s.illegalMode := rfl

@[simp] theorem State.writeF_result (s : State) (v : Byte) : (s.writeF v).result = s.result := rfl

@[simp] theorem State.writeF_bc (s : State) (v : Byte) : (s.writeF v).bc = s.bc := rfl

@[simp] theorem State.writeF_de (s : State) (v : Byte) : (s.writeF v).de = s.de := rfl

@[simp] theorem State.writeF_hl (s : State) (v : Byte) : (s.writeF v).hl = s.hl := rfl

/-! ## setFlags -/

@[simp] theorem State.setFlags_a (s : State) (z n h c : Bool) : (s.setFlags z n h c).a = s.a := rfl

@[simp] theorem State.setFlags_f (s : State) (z n h c : Bool) : (s.setFlags z n h c).f = packFlags z n h c := rfl

@[simp] theorem State.setFlags_b (s : State) (z n h c : Bool) : (s.setFlags z n h c).b = s.b := rfl

@[simp] theorem State.setFlags_c (s : State) (z n h c : Bool) : (s.setFlags z n h c).c = s.c := rfl

@[simp] theorem State.setFlags_d (s : State) (z n h c : Bool) : (s.setFlags z n h c).d = s.d := rfl

@[simp] theorem State.setFlags_e (s : State) (z n h c : Bool) : (s.setFlags z n h c).e = s.e := rfl

@[simp] theorem State.setFlags_h (s : State) (z n h c : Bool) : (s.setFlags z n h c).h = s.h := rfl

@[simp] theorem State.setFlags_l (s : State) (z n h c : Bool) : (s.setFlags z n h c).l = s.l := rfl

@[simp] theorem State.setFlags_sp (s : State) (z n h c : Bool) : (s.setFlags z n h c).sp = s.sp := rfl

@[simp] theorem State.setFlags_pc (s : State) (z n h c : Bool) : (s.setFlags z n h c).pc = s.pc := rfl

@[simp] theorem State.setFlags_mem (s : State) (z n h c : Bool) : (s.setFlags z n h c).mem = s.mem := rfl

@[simp] theorem State.setFlags_illegalMode (s : State) (z n h c : Bool) : (s.setFlags z n h c).illegalMode = s.illegalMode := rfl

@[simp] theorem State.setFlags_result (s : State) (z n h c : Bool) : (s.setFlags z n h c).result = s.result := rfl

@[simp] theorem State.setFlags_bc (s : State) (z n h c : Bool) : (s.setFlags z n h c).bc = s.bc := rfl

@[simp] theorem State.setFlags_de (s : State) (z n h c : Bool) : (s.setFlags z n h c).de = s.de := rfl

@[simp] theorem State.setFlags_hl (s : State) (z n h c : Bool) : (s.setFlags z n h c).hl = s.hl := rfl

/-! ## putFlags -/

@[simp] theorem State.putFlags_a (s : State) (fl : Flags) : (s.putFlags fl).a = s.a := rfl

@[simp] theorem State.putFlags_f (s : State) (fl : Flags) : (s.putFlags fl).f = packFlags fl.z fl.n fl.h fl.c := rfl

@[simp] theorem State.putFlags_b (s : State) (fl : Flags) : (s.putFlags fl).b = s.b := rfl

@[simp] theorem State.putFlags_c (s : State) (fl : Flags) : (s.putFlags fl).c = s.c := rfl

@[simp] theorem State.putFlags_d (s : State) (fl : Flags) : (s.putFlags fl).d = s.d := rfl

@[simp] theorem State.putFlags_e (s : State) (fl : Flags) : (s.putFlags fl).e = s.e := rfl

@[simp] theorem State.putFlags_h (s : State) (fl : Flags) : (s.putFlags fl).h = s.h := rfl

@[simp] theorem State.putFlags_l (s : State) (fl : Flags) : (s.putFlags fl).l = s.l := rfl

@[simp] theorem State.putFlags_sp (s : State) (fl : Flags) : (s.putFlags fl).sp = s.sp := rfl

@[simp] theorem State.putFlags_pc (s : State) (fl : Flags) : (s.putFlags fl).pc = s.pc := rfl

@[simp] theorem State.putFlags_mem (s : State) (fl : Flags) : (s.putFlags fl).mem = s.mem := rfl

@[simp] theorem State.putFlags_illegalMode (s : State) (fl : Flags) : (s.putFlags fl).illegalMode = s.illegalMode := rfl

@[simp] theorem State.putFlags_result (s : State) (fl : Flags) : (s.putFlags fl).result = s.result := rfl

@[simp] theorem State.putFlags_bc (s : State) (fl : Flags) : (s.putFlags fl).bc = s.bc := rfl

@[simp] theorem State.putFlags_de (s : State) (fl : Flags) : (s.putFlags fl).de = s.de := rfl

@[simp] theorem State.putFlags_hl (s : State) (fl : Flags) : (s.putFlags fl).hl = s.hl := rfl

/-! ## setBC -/

@[simp] theorem State.setBC_a (s : State) (v : Word) : (s.setBC v).a = s.a := rfl

@[simp] theorem State.setBC_f (s : State) (v : Word) : (s.setBC v).f = s.f := rfl

@[simp] theorem State.setBC_b (s : State) (v : Word) : (s.setBC v).b = highByte v := rfl

@[simp] theorem State.setBC_c (s : State) (v : Word) : (s.setBC v).c = lowByte v := rfl

@[simp] theorem State.setBC_d (s : State) (v : Word) : (s.setBC v).d = s.d := rfl

@[simp] theorem State.setBC_e (s : State) (v : Word) : (s.setBC v).e = s.e := rfl

@[simp] theorem State.setBC_h (s : State) (v : Word) : (s.setBC v).h = s.h := rfl

@[simp] theorem State.setBC_l (s : State) (v : Word) : (s.setBC v).l = s.l := rfl

@[simp] theorem State.setBC_sp (s : State) (v : Word) : (s.setBC v).sp = s.sp := rfl

@[simp] theorem State.setBC_pc (s : State) (v : Word) : (s.setBC v).pc = s.pc := rfl

@[simp] theorem State.setBC_mem (s : State) (v : Word) : (s.setBC v).mem = s.mem := rfl

@[simp] theorem State.setBC_illegalMode (s : State) (v : Word) : (s.setBC v).illegalMode = s.illegalMode := rfl

@[simp] theorem State.setBC_result (s : State) (v : Word) : (s.setBC v).result = s.result := rfl

@[simp] theorem State.setBC_flagZ (s : State) (v : Word) : (s.setBC v).flagZ = s.flagZ := rfl

@[simp] theorem State.setBC_flagN (s : State) (v : Word) : (s.setBC v).flagN = s.flagN := rfl

@[simp] theorem State.setBC_flagH (s : State) (v : Word) : (s.setBC v).flagH = s.flagH := rfl

@[simp] theorem State.setBC_flagC (s : State) (v : Word) : (s.setBC v).flagC = s.flagC := rfl

@[simp] theorem State.setBC_readF (s : State) (v : Word) : (s.setBC v).readF = s.readF := rfl

@[simp] theorem State.setBC_af (s : State) (v : Word) : (s.setBC v).af = s.af := rfl

@[simp] theorem State.setBC_de (s : State) (v : Word) : (s.setBC v).de = s.de := rfl

@[simp] theorem State.setBC_hl (s : State) (v : Word) : (s.setBC v).hl = s.hl := rfl

/-! ## setDE -/

@[simp] theorem State.setDE_a (s : State) (v : Word) : (s.setDE v).a = s.a := rfl

@[simp] theorem State.setDE_f (s : State) (v : Word) : (s.setDE v).f = s.f := rfl

@[simp] theorem State.setDE_b (s : State) (v : Word) : (s.setDE v).b = s.b := rfl

@[simp] theorem State.setDE_c (s : State) (v : Word) : (s.setDE v).c = s.c := rfl

@[simp] theorem State.setDE_d (s : State) (v : Word) : (s.setDE v).d = highByte v := rfl

@[simp] theorem State.setDE_e (s : State) (v : Word) : (s.setDE v).e = lowByte v := rfl

@[simp] theorem State.setDE_h (s : State) (v : Word) : (s.setDE v).h = s.h := rfl

@[simp] theorem State.setDE_l (s : State) (v : Word) : (s.setDE v).l = s.l := rfl

@[simp] theorem State.setDE_sp (s : State) (v : Word) : (s.setDE v).sp = s.sp := rfl

@[simp] theorem State.setDE_pc (s : State) (v : Word) : (s.setDE v).pc = s.pc := rfl

@[simp] theorem State.setDE_mem (s : State) (v : Word) : (s.setDE v).mem = s.mem := rfl

@[simp] theorem State.setDE_illegalMode (s : State) (v : Word) : (s.setDE v).illegalMode = s.illegalMode := rfl

@[simp] theorem State.setDE_result (s : State) (v : Word) : (s.setDE v).result = s.result := rfl

@[simp] theorem State.setDE_flagZ (s : State) (v : Word) : (s.setDE v).flagZ = s.flagZ := rfl

@[simp] theorem State.setDE_flagN (s : State) (v : Word) : (s.setDE v).flagN = s.flagN := rfl

@[simp] theorem State.setDE_flagH (s : State) (v : Word) : (s.setDE v).flagH = s.flagH := rfl

@[simp] theorem State.setDE_flagC (s : State) (v : Word) : (s.setDE v).flagC = s.flagC := rfl

@[simp] theorem State.setDE_readF (s : State) (v : Word) : (s.setDE v).readF = s.readF := rfl

@[simp] theorem State.setDE_af (s : State) (v : Word) : (s.setDE v).af = s.af := rfl

@[simp] theorem State.setDE_bc (s : State) (v : Word) : (s.setDE v).bc = s.bc := rfl

@[simp] theorem State.setDE_hl (s : State) (v : Word) : (s.setDE v).hl = s.hl := rfl

/-! ## setHL -/

@[simp] theorem State.setHL_a (s : State) (v : Word) : (s.setHL v).a = s.a := rfl

@[simp] theorem State.setHL_f (s : State) (v : Word) : (s.setHL v).f = s.f := rfl

@[simp] theorem State.setHL_b (s : State) (v : Word) : (s.setHL v).b = s.b := rfl

@[simp] theorem State.setHL_c (s : State) (v : Word) : (s.setHL v).c = s.c := rfl

@[simp] theorem State.setHL_d (s : State) (v : Word) : (s.setHL v).d = s.d := rfl

@[simp] theorem State.setHL_e (s : State) (v : Word) : (s.setHL v).e = s.e := rfl

@[simp] theorem State.setHL_h (s : State) (v : Word) : (s.setHL v).h = highByte v := rfl

@[simp] theorem State.setHL_l (s : State) (v : Word) : (s.setHL v).l = lowByte v := rfl

@[simp] theorem State.setHL_sp (s : State) (v : Word) : (s.setHL v).sp = s.sp := rfl

@[simp] theorem State.setHL_pc (s : State) (v : Word) : (s.setHL v).pc = s.pc := rfl

@[simp] theorem State.setHL_mem (s : State) (v : Word) : (s.setHL v).mem = s.mem := rfl

@[simp] theorem State.setHL_illegalMode (s : State) (v : Word) : (s.setHL v).illegalMode = s.illegalMode := rfl

@[simp] theorem State.setHL_result (s : State) (v : Word) : (s.setHL v).result = s.result := rfl

@[simp] theorem State.setHL_flagZ (s : State) (v : Word) : (s.setHL v).flagZ = s.flagZ := rfl

@[simp] theorem State.setHL_flagN (s : State) (v : Word) : (s.setHL v).flagN = s.flagN := rfl

@[simp] theorem State.setHL_flagH (s : State) (v : Word) : (s.setHL v).flagH = s.flagH := rfl

@[simp] theorem State.setHL_flagC (s : State) (v : Word) : (s.setHL v).flagC = s.flagC := rfl

@[simp] theorem State.setHL_readF (s : State) (v : Word) : (s.setHL v).readF = s.readF := rfl

@[simp] theorem State.setHL_af (s : State) (v : Word) : (s.setHL v).af = s.af := rfl

@[simp] theorem State.setHL_bc (s : State) (v : Word) : (s.setHL v).bc = s.bc := rfl

@[simp] theorem State.setHL_de (s : State) (v : Word) : (s.setHL v).de = s.de := rfl

/-! ## setAF -/

@[simp] theorem State.setAF_a (s : State) (v : Word) : (s.setAF v).a = highByte v := rfl

@[simp] theorem State.setAF_f (s : State) (v : Word) : (s.setAF v).f = lowByte v &&& 0xF0#8 := rfl

@[simp] theorem State.setAF_b (s : State) (v : Word) : (s.setAF v).b = s.b := rfl

@[simp] theorem State.setAF_c (s : State) (v : Word) : (s.setAF v).c = s.c := rfl

@[simp] theorem State.setAF_d (s : State) (v : Word) : (s.setAF v).d = s.d := rfl

@[simp] theorem State.setAF_e (s : State) (v : Word) : (s.setAF v).e = s.e := rfl

@[simp] theorem State.setAF_h (s : State) (v : Word) : (s.setAF v).h = s.h := rfl

@[simp] theorem State.setAF_l (s : State) (v : Word) : (s.setAF v).l = s.l := rfl

@[simp] theorem State.setAF_sp (s : State) (v : Word) : (s.setAF v).sp = s.sp := rfl

@[simp] theorem State.setAF_pc (s : State) (v : Word) : (s.setAF v).pc = s.pc := rfl

@[simp] theorem State.setAF_mem (s : State) (v : Word) : (s.setAF v).mem = s.mem := rfl

@[simp] theorem State.setAF_illegalMode (s : State) (v : Word) : (s.setAF v).illegalMode = s.illegalMode := rfl

@[simp] theorem State.setAF_result (s : State) (v : Word) : (s.setAF v).result = s.result := rfl

@[simp] theorem State.setAF_bc (s : State) (v : Word) : (s.setAF v).bc = s.bc := rfl

@[simp] theorem State.setAF_de (s : State) (v : Word) : (s.setAF v).de = s.de := rfl

@[simp] theorem State.setAF_hl (s : State) (v : Word) : (s.setAF v).hl = s.hl := rfl

end Sys2Proof.Machine
end

