-- ==== Sys2Proof/Laws/Flags.lean ====
section
/-! SUPPORT. What the flags byte holds after a write of the four flags (10_state.md R34, R35). -/

namespace Sys2Proof.Machine

theorem packFlags_z (z n h c : Bool) : (packFlags z n h c).getLsbD 7 = z := by
  cases z <;> cases n <;> cases h <;> cases c <;> rfl

theorem packFlags_n (z n h c : Bool) : (packFlags z n h c).getLsbD 6 = n := by
  cases z <;> cases n <;> cases h <;> cases c <;> rfl

theorem packFlags_h (z n h c : Bool) : (packFlags z n h c).getLsbD 5 = h := by
  cases z <;> cases n <;> cases h <;> cases c <;> rfl

theorem packFlags_c (z n h c : Bool) : (packFlags z n h c).getLsbD 4 = c := by
  cases z <;> cases n <;> cases h <;> cases c <;> rfl

/-- The low nibble of a packed flags byte is 0. -/
@[simp] theorem packFlags_low (z n h c : Bool) : packFlags z n h c &&& 0x0F#8 = 0#8 := by
  cases z <;> cases n <;> cases h <;> cases c <;> rfl

/-- Masking with 0xF0 leaves a low nibble of 0. -/
@[simp] theorem maskF_low (v : Byte) : v &&& 0xF0#8 &&& 0x0F#8 = 0#8 := by
  rw [BitVec.and_assoc]
  exact BitVec.and_zero

@[simp] theorem State.setFlags_flagZ (s : State) (z n h c : Bool) : (s.setFlags z n h c).flagZ = z :=
  packFlags_z z n h c

@[simp] theorem State.setFlags_flagN (s : State) (z n h c : Bool) : (s.setFlags z n h c).flagN = n :=
  packFlags_n z n h c

@[simp] theorem State.setFlags_flagH (s : State) (z n h c : Bool) : (s.setFlags z n h c).flagH = h :=
  packFlags_h z n h c

@[simp] theorem State.setFlags_flagC (s : State) (z n h c : Bool) : (s.setFlags z n h c).flagC = c :=
  packFlags_c z n h c

@[simp] theorem State.putFlags_flagZ (s : State) (fl : Flags) : (s.putFlags fl).flagZ = fl.z :=
  packFlags_z ..

@[simp] theorem State.putFlags_flagN (s : State) (fl : Flags) : (s.putFlags fl).flagN = fl.n :=
  packFlags_n ..

@[simp] theorem State.putFlags_flagH (s : State) (fl : Flags) : (s.putFlags fl).flagH = fl.h :=
  packFlags_h ..

@[simp] theorem State.putFlags_flagC (s : State) (fl : Flags) : (s.putFlags fl).flagC = fl.c :=
  packFlags_c ..

end Sys2Proof.Machine
end

