-- ==== Sys2Proof/Laws/Memory.lean ====
section
/-! SUPPORT. The laws of memory (20_memory.md R71, R73): a read after a write, and that every memory
operation keeps the canonical form. -/

namespace Sys2Proof.Machine

/-! ## What a list of cells holds after each operation -/

theorem Memory.lookup_removeCell_same (m : Memory) (k : Nat) :
    Memory.lookup (Memory.removeCell k m) k = Config.unlistedByte := by
  induction m with
  | nil => rfl
  | cons cell rest ih =>
    by_cases h : cell.1 = k
    · simp [Memory.removeCell, h, ih]
    · simp [Memory.removeCell, Memory.lookup, h, ih]

theorem Memory.lookup_removeCell_other (m : Memory) {k j : Nat} (hj : j ≠ k) :
    Memory.lookup (Memory.removeCell k m) j = Memory.lookup m j := by
  induction m with
  | nil => rfl
  | cons cell rest ih =>
    by_cases h : cell.1 = k
    · have : cell.1 ≠ j := fun e => hj (e.symm.trans h)
      simp [Memory.removeCell, Memory.lookup, h, ih, Ne.symm hj]
    · simp [Memory.removeCell, Memory.lookup, h, ih]

theorem Memory.lookup_insertCell_other (m : Memory) {k j : Nat} (v : Byte) (hj : j ≠ k) :
    Memory.lookup (Memory.insertCell k v m) j = Memory.lookup m j := by
  induction m with
  | nil => simp [Memory.insertCell, Memory.lookup, Ne.symm hj]
  | cons cell rest ih =>
    by_cases h : k < cell.1
    · simp [Memory.insertCell, Memory.lookup, h, Ne.symm hj]
    · simp [Memory.insertCell, Memory.lookup, h, ih]

/-- An address a list does not mention. -/
theorem Memory.lookup_insertCell_same (m : Memory) (k : Nat) (v : Byte)
    (absent : ∀ cell ∈ m, cell.1 ≠ k) : Memory.lookup (Memory.insertCell k v m) k = v := by
  induction m with
  | nil => simp [Memory.insertCell, Memory.lookup]
  | cons cell rest ih =>
    have hne : cell.1 ≠ k := absent cell (by simp)
    by_cases h : k < cell.1
    · simp [Memory.insertCell, Memory.lookup, h]
    · simp [Memory.insertCell, Memory.lookup, h, hne, ih fun c hc => absent c (by simp [hc])]

theorem Memory.removeCell_absent (m : Memory) (k : Nat) : ∀ cell ∈ Memory.removeCell k m, cell.1 ≠ k := by
  induction m with
  | nil => simp [Memory.removeCell]
  | cons cell rest ih =>
    by_cases h : cell.1 = k
    · simpa [Memory.removeCell, h] using ih
    · simpa [Memory.removeCell, h] using ih

/-! ## Reads after writes (R73) -/

/-- A read gives the byte last written, in any memory. -/
@[simp] theorem Memory.read_write_same (m : Memory) (x : Word) (v : Byte) :
    Memory.read (Memory.write m x v) x = v := by
  unfold Memory.read Memory.write
  by_cases h : v = Config.unlistedByte
  · simp [h, Memory.lookup_removeCell_same]
  · simp [h, Memory.lookup_insertCell_same _ _ _ (Memory.removeCell_absent m _)]

/-- A write leaves every other address alone, in any memory. -/
theorem Memory.read_write_other (m : Memory) {x y : Word} (v : Byte) (h : y ≠ x) :
    Memory.read (Memory.write m x v) y = Memory.read m y := by
  have hn : y.toNat ≠ x.toNat := fun e => h (BitVec.eq_of_toNat_eq e)
  unfold Memory.read Memory.write
  split
  · exact Memory.lookup_removeCell_other m hn
  · rw [Memory.lookup_insertCell_other _ _ hn, Memory.lookup_removeCell_other m hn]

/-- A read after a write, in one equation. -/
theorem Memory.read_write (m : Memory) (x y : Word) (v : Byte) :
    Memory.read (Memory.write m x v) y = if y = x then v else Memory.read m y := by
  split
  · next h => rw [h, Memory.read_write_same]
  · next h => exact Memory.read_write_other m v h

@[simp] theorem State.readByte_writeByte_same (s : State) (x : Word) (v : Byte) :
    (s.writeByte x v).readByte x = v := Memory.read_write_same s.mem x v

theorem State.readByte_writeByte_other (s : State) {x y : Word} (v : Byte) (h : y ≠ x) :
    (s.writeByte x v).readByte y = s.readByte y := Memory.read_write_other s.mem v h

theorem State.readByte_writeByte (s : State) (x y : Word) (v : Byte) :
    (s.writeByte x v).readByte y = if y = x then v else s.readByte y := Memory.read_write s.mem x y v

/-! ## The canonical form is kept -/

theorem Memory.wfFrom_lower {m : Memory} {lo lo' : Nat} (h : Memory.wfFrom lo m = true) (hle : lo' ≤ lo) :
    Memory.wfFrom lo' m = true := by
  cases m with
  | nil => rfl
  | cons cell rest =>
    simp only [Memory.wfFrom, Bool.and_eq_true, decide_eq_true_eq] at h ⊢
    exact ⟨⟨⟨Nat.le_trans hle h.1.1.1, h.1.1.2⟩, h.1.2⟩, h.2⟩

theorem Memory.wfFrom_removeCell {m : Memory} {lo : Nat} (k : Nat) (h : Memory.wfFrom lo m = true) :
    Memory.wfFrom lo (Memory.removeCell k m) = true := by
  induction m generalizing lo with
  | nil => rfl
  | cons cell rest ih =>
    simp only [Memory.wfFrom, Bool.and_eq_true, decide_eq_true_eq] at h
    by_cases hk : cell.1 = k
    · simp only [Memory.removeCell, hk, if_true]
      exact Memory.wfFrom_lower (ih h.2) (by omega)
    · simp only [Memory.removeCell, hk, if_false, Memory.wfFrom, Bool.and_eq_true, decide_eq_true_eq]
      exact ⟨h.1, ih h.2⟩

theorem Memory.wfFrom_insertCell {m : Memory} {lo k : Nat} {v : Byte} (h : Memory.wfFrom lo m = true)
    (absent : ∀ cell ∈ m, cell.1 ≠ k) (hlo : lo ≤ k) (hk : k < Config.memSize) (hv : v ≠ Config.unlistedByte) :
    Memory.wfFrom lo (Memory.insertCell k v m) = true := by
  induction m generalizing lo with
  | nil => simp [Memory.insertCell, Memory.wfFrom, hlo, hk, hv]
  | cons cell rest ih =>
    have hne : cell.1 ≠ k := absent cell (by simp)
    have hrest : ∀ c ∈ rest, c.1 ≠ k := fun c hc => absent c (by simp [hc])
    simp only [Memory.wfFrom, Bool.and_eq_true, decide_eq_true_eq] at h
    by_cases hlt : k < cell.1
    · simp only [Memory.insertCell, hlt, if_true, Memory.wfFrom, Bool.and_eq_true, decide_eq_true_eq]
      exact ⟨⟨⟨hlo, hk⟩, hv⟩, ⟨⟨⟨by omega, h.1.1.2⟩, h.1.2⟩, h.2⟩⟩
    · simp only [Memory.insertCell, hlt, if_false, Memory.wfFrom, Bool.and_eq_true, decide_eq_true_eq]
      exact ⟨h.1, ih h.2 hrest (by omega)⟩

/-- Every write keeps the canonical form. -/
theorem Memory.wf_write {m : Memory} (x : Word) (v : Byte) (h : Memory.wf m = true) :
    Memory.wf (Memory.write m x v) = true := by
  unfold Memory.wf at h ⊢
  unfold Memory.write
  split
  · exact Memory.wfFrom_removeCell _ h
  · next hv =>
    exact Memory.wfFrom_insertCell (Memory.wfFrom_removeCell _ h) (Memory.removeCell_absent m _)
      (Nat.zero_le _) x.isLt hv

end Sys2Proof.Machine
end

