-- ==== Sys2Proof/Laws/Ops.lean ====
section
/-! SUPPORT. What each shared operation can do, said once: the stack, 16-bit stores, taking the exception,
the end of an instruction, and the host's reads of SP and PC. -/

namespace Sys2Proof.Machine

/-- Finishing answers a next state that differs in `result` alone. -/
theorem finish_next {cycles : Nat} {s t : State} :
    finish cycles s = .next t ↔ t = { s with result := .ok cycles } := by
  simp [finish, eq_comm]

/-- `Push16` (R450) in one record update. -/
theorem push16_eq (v : Word) (s : State) :
    push16 v s =
      { s with
        sp := s.sp - 1 - 1
        mem := Memory.write (Memory.write s.mem (s.sp - 1) (highByte v)) (s.sp - 1 - 1) (lowByte v) } := rfl

/-- `Pop16` (R451): the word, and the state with SP two further. -/
theorem pop16_eq (s : State) :
    pop16 s = (joinBytes (s.readByte (s.sp + 1)) (s.readByte s.sp), { s with sp := s.sp + 1 + 1 }) := rfl

/-- A 16-bit store (R75) in one record update. -/
theorem State.writeWord_eq (s : State) (x v : Word) :
    s.writeWord x v =
      { s with mem := Memory.write (Memory.write s.mem x (lowByte v)) (x + 1) (highByte v) } := rfl

/-- Calling a target (R457) in one record update. -/
theorem callTo_eq (target : Word) (s : State) :
    callTo target s =
      { s with
        pc := target
        sp := s.sp - 1 - 1
        mem := Memory.write (Memory.write s.mem (s.sp - 1) (highByte s.pc)) (s.sp - 1 - 1) (lowByte s.pc) } := rfl

/-- Returning (R459) in one record update. -/
theorem returnFrom_eq (s : State) :
    returnFrom s =
      { s with
        pc := joinBytes (s.readByte (s.sp + 1)) (s.readByte s.sp)
        sp := s.sp + 1 + 1 } := rfl

/-- Taking the exception (R509) answers a next state whose PC and result alone differ. -/
theorem takeIllegalOpcode_next (op : Byte) (s : State) :
    takeIllegalOpcode op s =
      .next { s with
        pc := if s.illegalMode = .hang then s.pc - 1 else s.pc
        result := if s.illegalMode = .nop then .ok Config.illegalOpcodeCycles else .illegal op } := by
  unfold takeIllegalOpcode finish
  cases h : s.illegalMode <;> simp

theorem push16_wf {s : State} (v : Word) (h : Memory.wf s.mem = true) : Memory.wf (push16 v s).mem = true :=
  Memory.wf_write _ _ (Memory.wf_write _ _ h)

theorem writeWord_wf {s : State} (x v : Word) (h : Memory.wf s.mem = true) :
    Memory.wf (s.writeWord x v).mem = true := Memory.wf_write _ _ (Memory.wf_write _ _ h)

@[simp] theorem hostReadSP_eq (s : State) : hostReadSP s = s.sp := rfl

@[simp] theorem hostReadPC_eq (s : State) : hostReadPC s = s.pc := rfl

end Sys2Proof.Machine
end

