-- ==== Sys2Proof/Laws/Operands.lean ====
section
/-! SUPPORT. What writing each operand form leaves alone (30_encoding.md R103 to R106). -/

namespace Sys2Proof.Machine

@[simp] theorem writeOperand_f (r : Operand8) (v : Byte) (s : State) : (writeOperand r v s).f = s.f := by
  cases r <;> rfl

@[simp] theorem writeOperand_sp (r : Operand8) (v : Byte) (s : State) : (writeOperand r v s).sp = s.sp := by
  cases r <;> rfl

@[simp] theorem writeOperand_pc (r : Operand8) (v : Byte) (s : State) : (writeOperand r v s).pc = s.pc := by
  cases r <;> rfl

@[simp] theorem writeOperand_illegalMode (r : Operand8) (v : Byte) (s : State) :
    (writeOperand r v s).illegalMode = s.illegalMode := by
  cases r <;> rfl

theorem writeOperand_wf (r : Operand8) (v : Byte) {s : State} (h : Memory.wf s.mem = true) :
    Memory.wf (writeOperand r v s).mem = true := by
  cases r <;> first | exact h | exact Memory.wf_write _ _ h

/-- A register operand holds what was written to it. -/
theorem readOperand_writeOperand_same (r : Operand8) (v : Byte) (s : State) (hr : r ≠ .indHL) :
    readOperand r (writeOperand r v s) = v := by
  cases r <;> first | rfl | exact absurd rfl hr

/-- A register operand other than the one written keeps its value. -/
theorem readOperand_writeOperand_other {q r : Operand8} (v : Byte) (s : State) (hq : q ≠ .indHL) (h : q ≠ r) :
    readOperand q (writeOperand r v s) = readOperand q s := by
  cases q <;> cases r <;> first | rfl | exact absurd rfl h | exact absurd rfl hq

/-- Memory after a write of an operand: only (HL) writes a byte, the one at HL. -/
theorem readByte_writeOperand (r : Operand8) (v : Byte) (s : State) (x : Word) :
    (writeOperand r v s).readByte x = if r = .indHL ∧ x = s.hl then v else s.readByte x := by
  cases r <;> simp [writeOperand, State.readByte, Memory.read_write]

@[simp] theorem writePair_f (p : Pair) (v : Word) (s : State) : (writePair p v s).f = s.f := by cases p <;> rfl

@[simp] theorem writePair_a (p : Pair) (v : Word) (s : State) : (writePair p v s).a = s.a := by cases p <;> rfl

@[simp] theorem writePair_pc (p : Pair) (v : Word) (s : State) : (writePair p v s).pc = s.pc := by cases p <;> rfl

@[simp] theorem writePair_mem (p : Pair) (v : Word) (s : State) : (writePair p v s).mem = s.mem := by
  cases p <;> rfl

@[simp] theorem writePair_illegalMode (p : Pair) (v : Word) (s : State) :
    (writePair p v s).illegalMode = s.illegalMode := by
  cases p <;> rfl

/-- A pair holds the word written to it (R33). -/
@[simp] theorem readPair_writePair_same (p : Pair) (v : Word) (s : State) : readPair p (writePair p v s) = v := by
  cases p <;> simp [readPair, writePair, State.bc, State.de, State.hl]

@[simp] theorem writeStackPair_sp (q : StackPair) (v : Word) (s : State) :
    (writeStackPair q v s).sp = s.sp := by cases q <;> rfl

@[simp] theorem writeStackPair_pc (q : StackPair) (v : Word) (s : State) :
    (writeStackPair q v s).pc = s.pc := by cases q <;> rfl

@[simp] theorem writeStackPair_mem (q : StackPair) (v : Word) (s : State) :
    (writeStackPair q v s).mem = s.mem := by cases q <;> rfl

@[simp] theorem writeStackPair_illegalMode (q : StackPair) (v : Word) (s : State) :
    (writeStackPair q v s).illegalMode = s.illegalMode := by cases q <;> rfl

/-- Resolving an indirect address (R106) changes H and L at most. -/
theorem resolveIndirect_frame (m : Indirect) (s : State) :
    (resolveIndirect m s).2 = { s with h := (resolveIndirect m s).2.h, l := (resolveIndirect m s).2.l } := by
  cases m <;> rfl

end Sys2Proof.Machine
end

