-- ==== Sys2Proof/Laws/Operation.lean ====
section
/-! SUPPORT. The instructions by their operations: 512 constructors are 46 operations with selectors, and
exec performs the operation. A proof about every instruction cites `exec_eq_perform` and splits on the
operation. -/

namespace Sys2Proof.Machine

/-- The operations behind the rows of the opcode table; `inert` is NOP, STOP, HALT, DI and EI, and `ret`
is RET and RETI. -/
inductive Operation where
  | alu (op : AluOp) (r : Operand8)
  | aluImm (op : AluOp) (d8 : Byte)
  | inc (r : Operand8)
  | dec (r : Operand8)
  | daa
  | addHL (p : Pair)
  | incPair (p : Pair)
  | decPair (p : Pair)
  | rotA (op : RotOp)
  | rot (op : RotOp) (r : Operand8)
  | bit (i : BitIndex) (r : Operand8)
  | res (i : BitIndex) (r : Operand8)
  | set (i : BitIndex) (r : Operand8)
  | ld (dst src : Operand8)
  | ldImm8 (dst : Operand8) (d8 : Byte)
  | ldImm16 (p : Pair) (d16 : Word)
  | storeInd (m : Indirect)
  | loadInd (m : Indirect)
  | storeHigh (a8 : Byte)
  | loadHigh (a8 : Byte)
  | storeHighC
  | loadHighC
  | storeAbs (a16 : Word)
  | loadAbs (a16 : Word)
  | storeSP (a16 : Word)
  | spFromHL
  | addSP (e8 : Byte)
  | hlFromSP (e8 : Byte)
  | jr (e8 : Byte)
  | jrIf (cc : Cond) (e8 : Byte)
  | jp (a16 : Word)
  | jpIf (cc : Cond) (a16 : Word)
  | jpHL
  | call (a16 : Word)
  | callIf (cc : Cond) (a16 : Word)
  | ret
  | retIf (cc : Cond)
  | rst (t : Restart)
  | push (q : StackPair)
  | pop (q : StackPair)
  | inert
  | cpl
  | scf
  | ccf
  | prefixCB
  | illegal (op : Byte)
  deriving DecidableEq, Repr

/-- The operation of an instruction. -/
def operationOf (i : Instr) : Operation :=
  match i with
  | .nop => .inert
  | .ldBCImm16 d16 => .ldImm16 .bc d16
  | .ldIndBCA => .storeInd .bc
  | .incBC => .incPair .bc
  | .incB => .inc .b
  | .decB => .dec .b
  | .ldBImm8 d8 => .ldImm8 .b d8
  | .rlca => .rotA .rlc
  | .ldIndA16SP a16 => .storeSP a16
  | .addHLBC => .addHL .bc
  | .ldAIndBC => .loadInd .bc
  | .decBC => .decPair .bc
  | .incC => .inc .c
  | .decC => .dec .c
  | .ldCImm8 d8 => .ldImm8 .c d8
  | .rrca => .rotA .rrc
  | .stop _ => .inert
  | .ldDEImm16 d16 => .ldImm16 .de d16
  | .ldIndDEA => .storeInd .de
  | .incDE => .incPair .de
  | .incD => .inc .d
  | .decD => .dec .d
  | .ldDImm8 d8 => .ldImm8 .d d8
  | .rla => .rotA .rl
  | .jr e8 => .jr e8
  | .addHLDE => .addHL .de
  | .ldAIndDE => .loadInd .de
  | .decDE => .decPair .de
  | .incE => .inc .e
  | .decE => .dec .e
  | .ldEImm8 d8 => .ldImm8 .e d8
  | .rra => .rotA .rr
  | .jrNZ e8 => .jrIf .nz e8
  | .ldHLImm16 d16 => .ldImm16 .hl d16
  | .ldIndHLIncA => .storeInd .hlInc
  | .incHL => .incPair .hl
  | .incH => .inc .h
  | .decH => .dec .h
  | .ldHImm8 d8 => .ldImm8 .h d8
  | .daa => .daa
  | .jrZ e8 => .jrIf .z e8
  | .addHLHL => .addHL .hl
  | .ldAIndHLInc => .loadInd .hlInc
  | .decHL => .decPair .hl
  | .incL => .inc .l
  | .decL => .dec .l
  | .ldLImm8 d8 => .ldImm8 .l d8
  | .cpl => .cpl
  | .jrNC e8 => .jrIf .nc e8
  | .ldSPImm16 d16 => .ldImm16 .sp d16
  | .ldIndHLDecA => .storeInd .hlDec
  | .incSP => .incPair .sp
  | .incIndHL => .inc .indHL
  | .decIndHL => .dec .indHL
  | .ldIndHLImm8 d8 => .ldImm8 .indHL d8
  | .scf => .scf
  | .jrC e8 => .jrIf .c e8
  | .addHLSP => .addHL .sp
  | .ldAIndHLDec => .loadInd .hlDec
  | .decSP => .decPair .sp
  | .incA => .inc .a
  | .decA => .dec .a
  | .ldAImm8 d8 => .ldImm8 .a d8
  | .ccf => .ccf
  | .ldBB => .ld .b .b
  | .ldBC => .ld .b .c
  | .ldBD => .ld .b .d
  | .ldBE => .ld .b .e
  | .ldBH => .ld .b .h
  | .ldBL => .ld .b .l
  | .ldBIndHL => .ld .b .indHL
  | .ldBA => .ld .b .a
  | .ldCB => .ld .c .b
  | .ldCC => .ld .c .c
  | .ldCD => .ld .c .d
  | .ldCE => .ld .c .e
  | .ldCH => .ld .c .h
  | .ldCL => .ld .c .l
  | .ldCIndHL => .ld .c .indHL
  | .ldCA => .ld .c .a
  | .ldDB => .ld .d .b
  | .ldDC => .ld .d .c
  | .ldDD => .ld .d .d
  | .ldDE => .ld .d .e
  | .ldDH => .ld .d .h
  | .ldDL => .ld .d .l
  | .ldDIndHL => .ld .d .indHL
  | .ldDA => .ld .d .a
  | .ldEB => .ld .e .b
  | .ldEC => .ld .e .c
  | .ldED => .ld .e .d
  | .ldEE => .ld .e .e
  | .ldEH => .ld .e .h
  | .ldEL => .ld .e .l
  | .ldEIndHL => .ld .e .indHL
  | .ldEA => .ld .e .a
  | .ldHB => .ld .h .b
  | .ldHC => .ld .h .c
  | .ldHD => .ld .h .d
  | .ldHE => .ld .h .e
  | .ldHH => .ld .h .h
  | .ldHL => .ld .h .l
  | .ldHIndHL => .ld .h .indHL
  | .ldHA => .ld .h .a
  | .ldLB => .ld .l .b
  | .ldLC => .ld .l .c
  | .ldLD => .ld .l .d
  | .ldLE => .ld .l .e
  | .ldLH => .ld .l .h
  | .ldLL => .ld .l .l
  | .ldLIndHL => .ld .l .indHL
  | .ldLA => .ld .l .a
  | .ldIndHLB => .ld .indHL .b
  | .ldIndHLC => .ld .indHL .c
  | .ldIndHLD => .ld .indHL .d
  | .ldIndHLE => .ld .indHL .e
  | .ldIndHLH => .ld .indHL .h
  | .ldIndHLL => .ld .indHL .l
  | .halt => .inert
  | .ldIndHLA => .ld .indHL .a
  | .ldAB => .ld .a .b
  | .ldAC => .ld .a .c
  | .ldAD => .ld .a .d
  | .ldAE => .ld .a .e
  | .ldAH => .ld .a .h
  | .ldAL => .ld .a .l
  | .ldAIndHL => .ld .a .indHL
  | .ldAA => .ld .a .a
  | .addAB => .alu .add .b
  | .addAC => .alu .add .c
  | .addAD => .alu .add .d
  | .addAE => .alu .add .e
  | .addAH => .alu .add .h
  | .addAL => .alu .add .l
  | .addAIndHL => .alu .add .indHL
  | .addAA => .alu .add .a
  | .adcAB => .alu .adc .b
  | .adcAC => .alu .adc .c
  | .adcAD => .alu .adc .d
  | .adcAE => .alu .adc .e
  | .adcAH => .alu .adc .h
  | .adcAL => .alu .adc .l
  | .adcAIndHL => .alu .adc .indHL
  | .adcAA => .alu .adc .a
  | .subB => .alu .sub .b
  | .subC => .alu .sub .c
  | .subD => .alu .sub .d
  | .subE => .alu .sub .e
  | .subH => .alu .sub .h
  | .subL => .alu .sub .l
  | .subIndHL => .alu .sub .indHL
  | .subA => .alu .sub .a
  | .sbcAB => .alu .sbc .b
  | .sbcAC => .alu .sbc .c
  | .sbcAD => .alu .sbc .d
  | .sbcAE => .alu .sbc .e
  | .sbcAH => .alu .sbc .h
  | .sbcAL => .alu .sbc .l
  | .sbcAIndHL => .alu .sbc .indHL
  | .sbcAA => .alu .sbc .a
  | .andB => .alu .and .b
  | .andC => .alu .and .c
  | .andD => .alu .and .d
  | .andE => .alu .and .e
  | .andH => .alu .and .h
  | .andL => .alu .and .l
  | .andIndHL => .alu .and .indHL
  | .andA => .alu .and .a
  | .xorB => .alu .xor .b
  | .xorC => .alu .xor .c
  | .xorD => .alu .xor .d
  | .xorE => .alu .xor .e
  | .xorH => .alu .xor .h
  | .xorL => .alu .xor .l
  | .xorIndHL => .alu .xor .indHL
  | .xorA => .alu .xor .a
  | .orB => .alu .or .b
  | .orC => .alu .or .c
  | .orD => .alu .or .d
  | .orE => .alu .or .e
  | .orH => .alu .or .h
  | .orL => .alu .or .l
  | .orIndHL => .alu .or .indHL
  | .orA => .alu .or .a
  | .cpB => .alu .cp .b
  | .cpC => .alu .cp .c
  | .cpD => .alu .cp .d
  | .cpE => .alu .cp .e
  | .cpH => .alu .cp .h
  | .cpL => .alu .cp .l
  | .cpIndHL => .alu .cp .indHL
  | .cpA => .alu .cp .a
  | .retNZ => .retIf .nz
  | .popBC => .pop .bc
  | .jpNZ a16 => .jpIf .nz a16
  | .jp a16 => .jp a16
  | .callNZ a16 => .callIf .nz a16
  | .pushBC => .push .bc
  | .addAImm8 d8 => .aluImm .add d8
  | .rst00 => .rst .t00
  | .retZ => .retIf .z
  | .ret => .ret
  | .jpZ a16 => .jpIf .z a16
  | .prefixCB => .prefixCB
  | .callZ a16 => .callIf .z a16
  | .call a16 => .call a16
  | .adcAImm8 d8 => .aluImm .adc d8
  | .rst08 => .rst .t08
  | .retNC => .retIf .nc
  | .popDE => .pop .de
  | .jpNC a16 => .jpIf .nc a16
  | .illegalD3 => .illegal 0xD3#8
  | .callNC a16 => .callIf .nc a16
  | .pushDE => .push .de
  | .subImm8 d8 => .aluImm .sub d8
  | .rst10 => .rst .t10
  | .retC => .retIf .c
  | .reti => .ret
  | .jpC a16 => .jpIf .c a16
  | .illegalDB => .illegal 0xDB#8
  | .callC a16 => .callIf .c a16
  | .illegalDD => .illegal 0xDD#8
  | .sbcAImm8 d8 => .aluImm .sbc d8
  | .rst18 => .rst .t18
  | .ldhIndA8A a8 => .storeHigh a8
  | .popHL => .pop .hl
  | .ldIndCA => .storeHighC
  | .illegalE3 => .illegal 0xE3#8
  | .illegalE4 => .illegal 0xE4#8
  | .pushHL => .push .hl
  | .andImm8 d8 => .aluImm .and d8
  | .rst20 => .rst .t20
  | .addSPe8 e8 => .addSP e8
  | .jpHL => .jpHL
  | .ldIndA16A a16 => .storeAbs a16
  | .illegalEB => .illegal 0xEB#8
  | .illegalEC => .illegal 0xEC#8
  | .illegalED => .illegal 0xED#8
  | .xorImm8 d8 => .aluImm .xor d8
  | .rst28 => .rst .t28
  | .ldhAIndA8 a8 => .loadHigh a8
  | .popAF => .pop .af
  | .ldAIndC => .loadHighC
  | .di => .inert
  | .illegalF4 => .illegal 0xF4#8
  | .pushAF => .push .af
  | .orImm8 d8 => .aluImm .or d8
  | .rst30 => .rst .t30
  | .ldHLSPe8 e8 => .hlFromSP e8
  | .ldSPHL => .spFromHL
  | .ldAIndA16 a16 => .loadAbs a16
  | .ei => .inert
  | .illegalFC => .illegal 0xFC#8
  | .illegalFD => .illegal 0xFD#8
  | .cpImm8 d8 => .aluImm .cp d8
  | .rst38 => .rst .t38
  | .rlcB => .rot .rlc .b
  | .rlcC => .rot .rlc .c
  | .rlcD => .rot .rlc .d
  | .rlcE => .rot .rlc .e
  | .rlcH => .rot .rlc .h
  | .rlcL => .rot .rlc .l
  | .rlcIndHL => .rot .rlc .indHL
  | .rlcA => .rot .rlc .a
  | .rrcB => .rot .rrc .b
  | .rrcC => .rot .rrc .c
  | .rrcD => .rot .rrc .d
  | .rrcE => .rot .rrc .e
  | .rrcH => .rot .rrc .h
  | .rrcL => .rot .rrc .l
  | .rrcIndHL => .rot .rrc .indHL
  | .rrcA => .rot .rrc .a
  | .rlB => .rot .rl .b
  | .rlC => .rot .rl .c
  | .rlD => .rot .rl .d
  | .rlE => .rot .rl .e
  | .rlH => .rot .rl .h
  | .rlL => .rot .rl .l
  | .rlIndHL => .rot .rl .indHL
  | .rlA => .rot .rl .a
  | .rrB => .rot .rr .b
  | .rrC => .rot .rr .c
  | .rrD => .rot .rr .d
  | .rrE => .rot .rr .e
  | .rrH => .rot .rr .h
  | .rrL => .rot .rr .l
  | .rrIndHL => .rot .rr .indHL
  | .rrA => .rot .rr .a
  | .slaB => .rot .sla .b
  | .slaC => .rot .sla .c
  | .slaD => .rot .sla .d
  | .slaE => .rot .sla .e
  | .slaH => .rot .sla .h
  | .slaL => .rot .sla .l
  | .slaIndHL => .rot .sla .indHL
  | .slaA => .rot .sla .a
  | .sraB => .rot .sra .b
  | .sraC => .rot .sra .c
  | .sraD => .rot .sra .d
  | .sraE => .rot .sra .e
  | .sraH => .rot .sra .h
  | .sraL => .rot .sra .l
  | .sraIndHL => .rot .sra .indHL
  | .sraA => .rot .sra .a
  | .swapB => .rot .swap .b
  | .swapC => .rot .swap .c
  | .swapD => .rot .swap .d
  | .swapE => .rot .swap .e
  | .swapH => .rot .swap .h
  | .swapL => .rot .swap .l
  | .swapIndHL => .rot .swap .indHL
  | .swapA => .rot .swap .a
  | .srlB => .rot .srl .b
  | .srlC => .rot .srl .c
  | .srlD => .rot .srl .d
  | .srlE => .rot .srl .e
  | .srlH => .rot .srl .h
  | .srlL => .rot .srl .l
  | .srlIndHL => .rot .srl .indHL
  | .srlA => .rot .srl .a
  | .bit0B => .bit .b0 .b
  | .bit0C => .bit .b0 .c
  | .bit0D => .bit .b0 .d
  | .bit0E => .bit .b0 .e
  | .bit0H => .bit .b0 .h
  | .bit0L => .bit .b0 .l
  | .bit0IndHL => .bit .b0 .indHL
  | .bit0A => .bit .b0 .a
  | .bit1B => .bit .b1 .b
  | .bit1C => .bit .b1 .c
  | .bit1D => .bit .b1 .d
  | .bit1E => .bit .b1 .e
  | .bit1H => .bit .b1 .h
  | .bit1L => .bit .b1 .l
  | .bit1IndHL => .bit .b1 .indHL
  | .bit1A => .bit .b1 .a
  | .bit2B => .bit .b2 .b
  | .bit2C => .bit .b2 .c
  | .bit2D => .bit .b2 .d
  | .bit2E => .bit .b2 .e
  | .bit2H => .bit .b2 .h
  | .bit2L => .bit .b2 .l
  | .bit2IndHL => .bit .b2 .indHL
  | .bit2A => .bit .b2 .a
  | .bit3B => .bit .b3 .b
  | .bit3C => .bit .b3 .c
  | .bit3D => .bit .b3 .d
  | .bit3E => .bit .b3 .e
  | .bit3H => .bit .b3 .h
  | .bit3L => .bit .b3 .l
  | .bit3IndHL => .bit .b3 .indHL
  | .bit3A => .bit .b3 .a
  | .bit4B => .bit .b4 .b
  | .bit4C => .bit .b4 .c
  | .bit4D => .bit .b4 .d
  | .bit4E => .bit .b4 .e
  | .bit4H => .bit .b4 .h
  | .bit4L => .bit .b4 .l
  | .bit4IndHL => .bit .b4 .indHL
  | .bit4A => .bit .b4 .a
  | .bit5B => .bit .b5 .b
  | .bit5C => .bit .b5 .c
  | .bit5D => .bit .b5 .d
  | .bit5E => .bit .b5 .e
  | .bit5H => .bit .b5 .h
  | .bit5L => .bit .b5 .l
  | .bit5IndHL => .bit .b5 .indHL
  | .bit5A => .bit .b5 .a
  | .bit6B => .bit .b6 .b
  | .bit6C => .bit .b6 .c
  | .bit6D => .bit .b6 .d
  | .bit6E => .bit .b6 .e
  | .bit6H => .bit .b6 .h
  | .bit6L => .bit .b6 .l
  | .bit6IndHL => .bit .b6 .indHL
  | .bit6A => .bit .b6 .a
  | .bit7B => .bit .b7 .b
  | .bit7C => .bit .b7 .c
  | .bit7D => .bit .b7 .d
  | .bit7E => .bit .b7 .e
  | .bit7H => .bit .b7 .h
  | .bit7L => .bit .b7 .l
  | .bit7IndHL => .bit .b7 .indHL
  | .bit7A => .bit .b7 .a
  | .res0B => .res .b0 .b
  | .res0C => .res .b0 .c
  | .res0D => .res .b0 .d
  | .res0E => .res .b0 .e
  | .res0H => .res .b0 .h
  | .res0L => .res .b0 .l
  | .res0IndHL => .res .b0 .indHL
  | .res0A => .res .b0 .a
  | .res1B => .res .b1 .b
  | .res1C => .res .b1 .c
  | .res1D => .res .b1 .d
  | .res1E => .res .b1 .e
  | .res1H => .res .b1 .h
  | .res1L => .res .b1 .l
  | .res1IndHL => .res .b1 .indHL
  | .res1A => .res .b1 .a
  | .res2B => .res .b2 .b
  | .res2C => .res .b2 .c
  | .res2D => .res .b2 .d
  | .res2E => .res .b2 .e
  | .res2H => .res .b2 .h
  | .res2L => .res .b2 .l
  | .res2IndHL => .res .b2 .indHL
  | .res2A => .res .b2 .a
  | .res3B => .res .b3 .b
  | .res3C => .res .b3 .c
  | .res3D => .res .b3 .d
  | .res3E => .res .b3 .e
  | .res3H => .res .b3 .h
  | .res3L => .res .b3 .l
  | .res3IndHL => .res .b3 .indHL
  | .res3A => .res .b3 .a
  | .res4B => .res .b4 .b
  | .res4C => .res .b4 .c
  | .res4D => .res .b4 .d
  | .res4E => .res .b4 .e
  | .res4H => .res .b4 .h
  | .res4L => .res .b4 .l
  | .res4IndHL => .res .b4 .indHL
  | .res4A => .res .b4 .a
  | .res5B => .res .b5 .b
  | .res5C => .res .b5 .c
  | .res5D => .res .b5 .d
  | .res5E => .res .b5 .e
  | .res5H => .res .b5 .h
  | .res5L => .res .b5 .l
  | .res5IndHL => .res .b5 .indHL
  | .res5A => .res .b5 .a
  | .res6B => .res .b6 .b
  | .res6C => .res .b6 .c
  | .res6D => .res .b6 .d
  | .res6E => .res .b6 .e
  | .res6H => .res .b6 .h
  | .res6L => .res .b6 .l
  | .res6IndHL => .res .b6 .indHL
  | .res6A => .res .b6 .a
  | .res7B => .res .b7 .b
  | .res7C => .res .b7 .c
  | .res7D => .res .b7 .d
  | .res7E => .res .b7 .e
  | .res7H => .res .b7 .h
  | .res7L => .res .b7 .l
  | .res7IndHL => .res .b7 .indHL
  | .res7A => .res .b7 .a
  | .set0B => .set .b0 .b
  | .set0C => .set .b0 .c
  | .set0D => .set .b0 .d
  | .set0E => .set .b0 .e
  | .set0H => .set .b0 .h
  | .set0L => .set .b0 .l
  | .set0IndHL => .set .b0 .indHL
  | .set0A => .set .b0 .a
  | .set1B => .set .b1 .b
  | .set1C => .set .b1 .c
  | .set1D => .set .b1 .d
  | .set1E => .set .b1 .e
  | .set1H => .set .b1 .h
  | .set1L => .set .b1 .l
  | .set1IndHL => .set .b1 .indHL
  | .set1A => .set .b1 .a
  | .set2B => .set .b2 .b
  | .set2C => .set .b2 .c
  | .set2D => .set .b2 .d
  | .set2E => .set .b2 .e
  | .set2H => .set .b2 .h
  | .set2L => .set .b2 .l
  | .set2IndHL => .set .b2 .indHL
  | .set2A => .set .b2 .a
  | .set3B => .set .b3 .b
  | .set3C => .set .b3 .c
  | .set3D => .set .b3 .d
  | .set3E => .set .b3 .e
  | .set3H => .set .b3 .h
  | .set3L => .set .b3 .l
  | .set3IndHL => .set .b3 .indHL
  | .set3A => .set .b3 .a
  | .set4B => .set .b4 .b
  | .set4C => .set .b4 .c
  | .set4D => .set .b4 .d
  | .set4E => .set .b4 .e
  | .set4H => .set .b4 .h
  | .set4L => .set .b4 .l
  | .set4IndHL => .set .b4 .indHL
  | .set4A => .set .b4 .a
  | .set5B => .set .b5 .b
  | .set5C => .set .b5 .c
  | .set5D => .set .b5 .d
  | .set5E => .set .b5 .e
  | .set5H => .set .b5 .h
  | .set5L => .set .b5 .l
  | .set5IndHL => .set .b5 .indHL
  | .set5A => .set .b5 .a
  | .set6B => .set .b6 .b
  | .set6C => .set .b6 .c
  | .set6D => .set .b6 .d
  | .set6E => .set .b6 .e
  | .set6H => .set .b6 .h
  | .set6L => .set .b6 .l
  | .set6IndHL => .set .b6 .indHL
  | .set6A => .set .b6 .a
  | .set7B => .set .b7 .b
  | .set7C => .set .b7 .c
  | .set7D => .set .b7 .d
  | .set7E => .set .b7 .e
  | .set7H => .set .b7 .h
  | .set7L => .set .b7 .l
  | .set7IndHL => .set .b7 .indHL
  | .set7A => .set .b7 .a

/-- What an operation does to a state whose PC is past the instruction. -/
def perform (o : Operation) (s : State) : Answer :=
  match o with
  | .alu op r => aluOperand op r s
  | .aluImm op d8 => aluImmediate op d8 s
  | .inc r => incOperand r s
  | .dec r => decOperand r s
  | .daa => decimalAdjust s
  | .addHL p => addToHL p s
  | .incPair p => Machine.incPair p s
  | .decPair p => Machine.decPair p s
  | .rotA op => rotateA op s
  | .rot op r => rotateOperand op r s
  | .bit i r => bitTest i r s
  | .res i r => bitReset i r s
  | .set i r => bitSet i r s
  | .ld dst src => loadOperand dst src s
  | .ldImm8 dst d8 => loadImmediate8 dst d8 s
  | .ldImm16 p d16 => loadImmediate16 p d16 s
  | .storeInd m => storeIndirect m s
  | .loadInd m => loadIndirect m s
  | .storeHigh a8 => storeA (highPage a8) 3 s
  | .loadHigh a8 => loadA (highPage a8) 3 s
  | .storeHighC => storeA (highPage s.c) 2 s
  | .loadHighC => loadA (highPage s.c) 2 s
  | .storeAbs a16 => storeA a16 4 s
  | .loadAbs a16 => loadA a16 4 s
  | .storeSP a16 => finish 5 (s.writeWord a16 s.sp)
  | .spFromHL => finish 2 { s with sp := s.hl }
  | .addSP e8 => addToSP e8 s
  | .hlFromSP e8 => loadHLFromSP e8 s
  | .jr e8 => jumpRelative e8 s
  | .jrIf cc e8 => jumpRelativeIf cc e8 s
  | .jp a16 => finish 4 { s with pc := a16 }
  | .jpIf cc a16 => jumpIf cc a16 s
  | .jpHL => finish 1 { s with pc := s.hl }
  | .call a16 => finish 6 (callTo a16 s)
  | .callIf cc a16 => Machine.callIf cc a16 s
  | .ret => finish 4 (returnFrom s)
  | .retIf cc => returnIf cc s
  | .rst t => finish 4 (callTo (restartAddress t) s)
  | .push q => pushPair q s
  | .pop q => popPair q s
  | .inert => finish 1 s
  | .cpl => complementA s
  | .scf => setCarry s
  | .ccf => complementCarry s
  | .prefixCB => performCB (fetchByte s).1 (fetchByte s).2
  | .illegal op => takeIllegalOpcode op s

/-- exec performs the operation of the instruction. -/
theorem exec_eq_perform (i : Instr) (s : State) : exec i s = perform (operationOf i) s := by
  cases i <;> rfl

end Sys2Proof.Machine
end

