-- ==== Sys2Proof/Laws/Families.lean ====
section
/-! SUPPORT. What each shared operation of the instruction families answers, as one next state. -/

namespace Sys2Proof.Machine

theorem aluOperand_eq (op : AluOp) (r : Operand8) (s : State) :
    aluOperand op r s =
      .next { s with
        a := (alu8 op s.a (readOperand r s) s.flagC).1
        f := (s.putFlags (alu8 op s.a (readOperand r s) s.flagC).2).f
        result := .ok (costBy r 1 2) } := rfl

theorem aluImmediate_eq (op : AluOp) (d8 : Byte) (s : State) :
    aluImmediate op d8 s =
      .next { s with
        a := (alu8 op s.a d8 s.flagC).1
        f := (s.putFlags (alu8 op s.a d8 s.flagC).2).f
        result := .ok 2 } := rfl

theorem incOperand_eq (r : Operand8) (s : State) :
    incOperand r s =
      .next { writeOperand r (readOperand r s + 1) s with
        f := (s.putFlags (inc8 (readOperand r s) s.flagC).2).f
        result := .ok (costBy r 1 3) } := rfl

theorem decOperand_eq (r : Operand8) (s : State) :
    decOperand r s =
      .next { writeOperand r (readOperand r s - 1) s with
        f := (s.putFlags (dec8 (readOperand r s) s.flagC).2).f
        result := .ok (costBy r 1 3) } := rfl

theorem decimalAdjust_eq (s : State) :
    decimalAdjust s =
      .next { s with
        a := (daa8 s.a s.flagN s.flagH s.flagC).1
        f := (s.putFlags (daa8 s.a s.flagN s.flagH s.flagC).2).f
        result := .ok 1 } := rfl

theorem addToHL_eq (p : Pair) (s : State) :
    addToHL p s =
      .next { s.setHL (add16 s.hl (readPair p s) s.flagZ).1 with
        f := (s.putFlags (add16 s.hl (readPair p s) s.flagZ).2).f
        result := .ok 2 } := rfl

theorem rotateA_eq (op : RotOp) (s : State) :
    rotateA op s =
      .next { s with
        a := (rot op s.a s.flagC).1
        f := packFlags false false false (rot op s.a s.flagC).2
        result := .ok 1 } := rfl

theorem rotateOperand_eq (op : RotOp) (r : Operand8) (s : State) :
    rotateOperand op r s =
      .next { writeOperand r (rot op (readOperand r s) s.flagC).1 s with
        f := packFlags (decide ((rot op (readOperand r s) s.flagC).1 = 0)) false false
          (rot op (readOperand r s) s.flagC).2
        result := .ok (costBy r 2 4) } := rfl

theorem bitTest_eq (i : BitIndex) (r : Operand8) (s : State) :
    bitTest i r s =
      .next { s with
        f := packFlags (!(readOperand r s).getLsbD (bitNumber i)) false true s.flagC
        result := .ok (costBy r 2 3) } := rfl

theorem incPair_eq (p : Pair) (s : State) :
    incPair p s = .next { writePair p (readPair p s + 1) s with result := .ok 2 } := rfl

theorem decPair_eq (p : Pair) (s : State) :
    decPair p s = .next { writePair p (readPair p s - 1) s with result := .ok 2 } := rfl

theorem bitReset_eq (i : BitIndex) (r : Operand8) (s : State) :
    bitReset i r s =
      .next { writeOperand r (readOperand r s &&& ~~~bitMask i) s with result := .ok (costBy r 2 4) } := rfl

theorem bitSet_eq (i : BitIndex) (r : Operand8) (s : State) :
    bitSet i r s =
      .next { writeOperand r (readOperand r s ||| bitMask i) s with result := .ok (costBy r 2 4) } := rfl

theorem loadOperand_eq (dst src : Operand8) (s : State) :
    loadOperand dst src s =
      .next { writeOperand dst (readOperand src s) s with result := .ok (costBy dst (costBy src 1 2) 2) } := rfl

theorem loadImmediate8_eq (dst : Operand8) (d8 : Byte) (s : State) :
    loadImmediate8 dst d8 s = .next { writeOperand dst d8 s with result := .ok (costBy dst 2 3) } := rfl

theorem loadImmediate16_eq (p : Pair) (d16 : Word) (s : State) :
    loadImmediate16 p d16 s = .next { writePair p d16 s with result := .ok 3 } := rfl

theorem storeIndirect_eq (m : Indirect) (s : State) :
    storeIndirect m s =
      .next { s with
        h := (resolveIndirect m s).2.h
        l := (resolveIndirect m s).2.l
        mem := Memory.write s.mem (resolveIndirect m s).1 s.a
        result := .ok 2 } := by
  cases m <;> rfl

theorem loadIndirect_eq (m : Indirect) (s : State) :
    loadIndirect m s =
      .next { s with
        a := s.readByte (resolveIndirect m s).1
        h := (resolveIndirect m s).2.h
        l := (resolveIndirect m s).2.l
        result := .ok 2 } := by
  cases m <;> rfl

theorem storeA_eq (addr : Word) (cycles : Nat) (s : State) :
    storeA addr cycles s = .next { s with mem := Memory.write s.mem addr s.a, result := .ok cycles } := rfl

theorem loadA_eq (addr : Word) (cycles : Nat) (s : State) :
    loadA addr cycles s = .next { s with a := s.readByte addr, result := .ok cycles } := rfl

theorem addToSP_eq (e8 : Byte) (s : State) :
    addToSP e8 s =
      .next { s with
        sp := (spPlusE8 s.sp e8).1
        f := (s.putFlags (spPlusE8 s.sp e8).2).f
        result := .ok 4 } := rfl

theorem loadHLFromSP_eq (e8 : Byte) (s : State) :
    loadHLFromSP e8 s =
      .next { s.setHL (spPlusE8 s.sp e8).1 with
        f := (s.putFlags (spPlusE8 s.sp e8).2).f
        result := .ok 3 } := rfl

theorem jumpRelative_eq (e8 : Byte) (s : State) :
    jumpRelative e8 s = .next { s with pc := s.pc + signExtend16 e8, result := .ok 3 } := rfl

theorem pushPair_eq (q : StackPair) (s : State) :
    pushPair q s = .next { push16 (readStackPair q s) s with result := .ok 4 } := rfl

theorem popPair_eq (q : StackPair) (s : State) :
    popPair q s = .next { writeStackPair q (pop16 s).1 (pop16 s).2 with result := .ok 3 } := rfl

theorem complementA_eq (s : State) :
    complementA s =
      .next { s with a := ~~~s.a, f := packFlags s.flagZ true true s.flagC, result := .ok 1 } := rfl

theorem setCarry_eq (s : State) :
    setCarry s = .next { s with f := packFlags s.flagZ false false true, result := .ok 1 } := rfl

theorem complementCarry_eq (s : State) :
    complementCarry s = .next { s with f := packFlags s.flagZ false false (!s.flagC), result := .ok 1 } := rfl

theorem jumpRelativeIf_eq (cc : Cond) (e8 : Byte) (s : State) :
    jumpRelativeIf cc e8 s =
      .next { s with
        pc := if condHolds cc s then s.pc + signExtend16 e8 else s.pc
        result := .ok (if condHolds cc s then 3 else 2) } := by
  unfold jumpRelativeIf
  cases condHolds cc s <;> rfl

theorem jumpIf_eq (cc : Cond) (a16 : Word) (s : State) :
    jumpIf cc a16 s =
      .next { s with
        pc := if condHolds cc s then a16 else s.pc
        result := .ok (if condHolds cc s then 4 else 3) } := by
  unfold jumpIf
  cases condHolds cc s <;> rfl

theorem callIf_eq (cc : Cond) (a16 : Word) (s : State) :
    callIf cc a16 s = if condHolds cc s then finish 6 (callTo a16 s) else finish 3 s := rfl

theorem returnIf_eq (cc : Cond) (s : State) :
    returnIf cc s = if condHolds cc s then finish 5 (returnFrom s) else finish 2 s := rfl

/-- The CB-table entry of a byte, performed through the prefix, is the entry's own instruction. -/
theorem performCB_eq (cb : Byte) (s : State) :
    performCB cb s =
      match fieldX cb with
      | 0 => perform (.rot (rotOf (fieldY cb)) (operandOf (fieldZ cb))) s
      | 1 => perform (.bit (bitOf (fieldY cb)) (operandOf (fieldZ cb))) s
      | 2 => perform (.res (bitOf (fieldY cb)) (operandOf (fieldZ cb))) s
      | _ => perform (.set (bitOf (fieldY cb)) (operandOf (fieldZ cb))) s := rfl

end Sys2Proof.Machine
end

