-- ==== Sys2Proof/Laws/Fetch.lean ====
section
/-! SUPPORT. What fetching an instruction answers (30_encoding.md R112, R113, R125), by the byte at PC. -/

namespace Sys2Proof.Machine

/-- Two fetches of a byte leave PC two further; the word has the later byte high (R113). -/
theorem fetchWord_eq (s : State) :
    fetchWord s = (joinBytes (s.readByte (s.pc + 1)) (s.readByte s.pc), { s with pc := s.pc + 1 + 1 }) := rfl

/-- The prefix byte at PC: the CB table's row of the byte after it, and PC past both (R508). -/
theorem fetchInstr_prefix {s : State} (h : s.readByte s.pc = Config.cbPrefix) :
    fetchInstr s = (decodeCB (s.readByte (s.pc + 1)), { s with pc := s.pc + 1 + 1 }) := if_pos h

/-- Any other byte at PC: the base table's row. -/
theorem fetchInstr_base {s : State} (h : s.readByte s.pc ≠ Config.cbPrefix) :
    fetchInstr s = fetchBase (s.readByte s.pc) { s with pc := s.pc + 1 } := if_neg h

theorem fetchBase_one {op : Byte} (s : State) (h : instrLength op = 1) :
    fetchBase op s = (decodeBase op 0 0, s) := by
  simp [fetchBase, h]

theorem fetchBase_two {op : Byte} (s : State) (h : instrLength op = 2) :
    fetchBase op s = (decodeBase op (s.readByte s.pc) 0, { s with pc := s.pc + 1 }) := by
  simp [fetchBase, h, fetchByte]

theorem fetchBase_three {op : Byte} (s : State) (h : instrLength op = 3) :
    fetchBase op s =
      (decodeBase op (s.readByte s.pc) (s.readByte (s.pc + 1)), { s with pc := s.pc + 1 + 1 }) := by
  simp [fetchBase, h, fetchWord_eq]

/-- The row of the CB table that a byte names performs what the prefix performs with it (R122, R508). -/
theorem exec_decodeCB (cb : Byte) (s : State) : exec (decodeCB cb) s = performCB cb s := by
  have rot : ∀ op r, exec (rowRot op r) s = rotateOperand op r s := by intro op r; cases op <;> cases r <;> rfl
  have bit : ∀ i r, exec (rowBit i r) s = bitTest i r s := by intro i r; cases i <;> cases r <;> rfl
  have res : ∀ i r, exec (rowRes i r) s = bitReset i r s := by intro i r; cases i <;> cases r <;> rfl
  have set : ∀ i r, exec (rowSet i r) s = bitSet i r s := by intro i r; cases i <;> cases r <;> rfl
  unfold decodeCB performCB
  generalize fieldX cb = x
  match x with
  | 0 => exact rot _ _
  | 1 => exact bit _ _
  | 2 => exact res _ _
  | _ + 3 => exact set _ _

end Sys2Proof.Machine
end

