-- ==== Sys2Proof/Laws/PerInstr.lean ====
section
/-! SUPPORT. The family `EncodedLength`, one lemma per constructor of Instr: the encoding of the
instruction has the length its first byte says (R100, R132), and a CB-prefixed one has 2 bytes. -/

namespace Sys2Proof.Laws.EncodedLength

/-- What holds of an instruction as syntax: its bytes are as many as R132 gives for the first of them; the
prefix alone (R101, format `prefix`) is the one byte it is. -/
def Statement (i : Instr) : Prop :=
  match encode i with
  | [] => False
  | op :: rest => rest.length + 1 = if i.wellFormed then instrLength op else 1

theorem nop : Statement .nop := rfl
theorem ldBCImm16 (d16 : Word) : Statement (.ldBCImm16 d16) := rfl
theorem ldIndBCA : Statement .ldIndBCA := rfl
theorem incBC : Statement .incBC := rfl
theorem incB : Statement .incB := rfl
theorem decB : Statement .decB := rfl
theorem ldBImm8 (d8 : Byte) : Statement (.ldBImm8 d8) := rfl
theorem rlca : Statement .rlca := rfl
theorem ldIndA16SP (a16 : Word) : Statement (.ldIndA16SP a16) := rfl
theorem addHLBC : Statement .addHLBC := rfl
theorem ldAIndBC : Statement .ldAIndBC := rfl
theorem decBC : Statement .decBC := rfl
theorem incC : Statement .incC := rfl
theorem decC : Statement .decC := rfl
theorem ldCImm8 (d8 : Byte) : Statement (.ldCImm8 d8) := rfl
theorem rrca : Statement .rrca := rfl
theorem stop (n : Byte) : Statement (.stop n) := rfl
theorem ldDEImm16 (d16 : Word) : Statement (.ldDEImm16 d16) := rfl
theorem ldIndDEA : Statement .ldIndDEA := rfl
theorem incDE : Statement .incDE := rfl
theorem incD : Statement .incD := rfl
theorem decD : Statement .decD := rfl
theorem ldDImm8 (d8 : Byte) : Statement (.ldDImm8 d8) := rfl
theorem rla : Statement .rla := rfl
theorem jr (e8 : Byte) : Statement (.jr e8) := rfl
theorem addHLDE : Statement .addHLDE := rfl
theorem ldAIndDE : Statement .ldAIndDE := rfl
theorem decDE : Statement .decDE := rfl
theorem incE : Statement .incE := rfl
theorem decE : Statement .decE := rfl
theorem ldEImm8 (d8 : Byte) : Statement (.ldEImm8 d8) := rfl
theorem rra : Statement .rra := rfl
theorem jrNZ (e8 : Byte) : Statement (.jrNZ e8) := rfl
theorem ldHLImm16 (d16 : Word) : Statement (.ldHLImm16 d16) := rfl
theorem ldIndHLIncA : Statement .ldIndHLIncA := rfl
theorem incHL : Statement .incHL := rfl
theorem incH : Statement .incH := rfl
theorem decH : Statement .decH := rfl
theorem ldHImm8 (d8 : Byte) : Statement (.ldHImm8 d8) := rfl
theorem daa : Statement .daa := rfl
theorem jrZ (e8 : Byte) : Statement (.jrZ e8) := rfl
theorem addHLHL : Statement .addHLHL := rfl
theorem ldAIndHLInc : Statement .ldAIndHLInc := rfl
theorem decHL : Statement .decHL := rfl
theorem incL : Statement .incL := rfl
theorem decL : Statement .decL := rfl
theorem ldLImm8 (d8 : Byte) : Statement (.ldLImm8 d8) := rfl
theorem cpl : Statement .cpl := rfl
theorem jrNC (e8 : Byte) : Statement (.jrNC e8) := rfl
theorem ldSPImm16 (d16 : Word) : Statement (.ldSPImm16 d16) := rfl
theorem ldIndHLDecA : Statement .ldIndHLDecA := rfl
theorem incSP : Statement .incSP := rfl
theorem incIndHL : Statement .incIndHL := rfl
theorem decIndHL : Statement .decIndHL := rfl
theorem ldIndHLImm8 (d8 : Byte) : Statement (.ldIndHLImm8 d8) := rfl
theorem scf : Statement .scf := rfl
theorem jrC (e8 : Byte) : Statement (.jrC e8) := rfl
theorem addHLSP : Statement .addHLSP := rfl
theorem ldAIndHLDec : Statement .ldAIndHLDec := rfl
theorem decSP : Statement .decSP := rfl
theorem incA : Statement .incA := rfl
theorem decA : Statement .decA := rfl
theorem ldAImm8 (d8 : Byte) : Statement (.ldAImm8 d8) := rfl
theorem ccf : Statement .ccf := rfl
theorem ldBB : Statement .ldBB := rfl
theorem ldBC : Statement .ldBC := rfl
theorem ldBD : Statement .ldBD := rfl
theorem ldBE : Statement .ldBE := rfl
theorem ldBH : Statement .ldBH := rfl
theorem ldBL : Statement .ldBL := rfl
theorem ldBIndHL : Statement .ldBIndHL := rfl
theorem ldBA : Statement .ldBA := rfl
theorem ldCB : Statement .ldCB := rfl
theorem ldCC : Statement .ldCC := rfl
theorem ldCD : Statement .ldCD := rfl
theorem ldCE : Statement .ldCE := rfl
theorem ldCH : Statement .ldCH := rfl
theorem ldCL : Statement .ldCL := rfl
theorem ldCIndHL : Statement .ldCIndHL := rfl
theorem ldCA : Statement .ldCA := rfl
theorem ldDB : Statement .ldDB := rfl
theorem ldDC : Statement .ldDC := rfl
theorem ldDD : Statement .ldDD := rfl
theorem ldDE : Statement .ldDE := rfl
theorem ldDH : Statement .ldDH := rfl
theorem ldDL : Statement .ldDL := rfl
theorem ldDIndHL : Statement .ldDIndHL := rfl
theorem ldDA : Statement .ldDA := rfl
theorem ldEB : Statement .ldEB := rfl
theorem ldEC : Statement .ldEC := rfl
theorem ldED : Statement .ldED := rfl
theorem ldEE : Statement .ldEE := rfl
theorem ldEH : Statement .ldEH := rfl
theorem ldEL : Statement .ldEL := rfl
theorem ldEIndHL : Statement .ldEIndHL := rfl
theorem ldEA : Statement .ldEA := rfl
theorem ldHB : Statement .ldHB := rfl
theorem ldHC : Statement .ldHC := rfl
theorem ldHD : Statement .ldHD := rfl
theorem ldHE : Statement .ldHE := rfl
theorem ldHH : Statement .ldHH := rfl
theorem ldHL : Statement .ldHL := rfl
theorem ldHIndHL : Statement .ldHIndHL := rfl
theorem ldHA : Statement .ldHA := rfl
theorem ldLB : Statement .ldLB := rfl
theorem ldLC : Statement .ldLC := rfl
theorem ldLD : Statement .ldLD := rfl
theorem ldLE : Statement .ldLE := rfl
theorem ldLH : Statement .ldLH := rfl
theorem ldLL : Statement .ldLL := rfl
theorem ldLIndHL : Statement .ldLIndHL := rfl
theorem ldLA : Statement .ldLA := rfl
theorem ldIndHLB : Statement .ldIndHLB := rfl
theorem ldIndHLC : Statement .ldIndHLC := rfl
theorem ldIndHLD : Statement .ldIndHLD := rfl
theorem ldIndHLE : Statement .ldIndHLE := rfl
theorem ldIndHLH : Statement .ldIndHLH := rfl
theorem ldIndHLL : Statement .ldIndHLL := rfl
theorem halt : Statement .halt := rfl
theorem ldIndHLA : Statement .ldIndHLA := rfl
theorem ldAB : Statement .ldAB := rfl
theorem ldAC : Statement .ldAC := rfl
theorem ldAD : Statement .ldAD := rfl
theorem ldAE : Statement .ldAE := rfl
theorem ldAH : Statement .ldAH := rfl
theorem ldAL : Statement .ldAL := rfl
theorem ldAIndHL : Statement .ldAIndHL := rfl
theorem ldAA : Statement .ldAA := rfl
theorem addAB : Statement .addAB := rfl
theorem addAC : Statement .addAC := rfl
theorem addAD : Statement .addAD := rfl
theorem addAE : Statement .addAE := rfl
theorem addAH : Statement .addAH := rfl
theorem addAL : Statement .addAL := rfl
theorem addAIndHL : Statement .addAIndHL := rfl
theorem addAA : Statement .addAA := rfl
theorem adcAB : Statement .adcAB := rfl
theorem adcAC : Statement .adcAC := rfl
theorem adcAD : Statement .adcAD := rfl
theorem adcAE : Statement .adcAE := rfl
theorem adcAH : Statement .adcAH := rfl
theorem adcAL : Statement .adcAL := rfl
theorem adcAIndHL : Statement .adcAIndHL := rfl
theorem adcAA : Statement .adcAA := rfl
theorem subB : Statement .subB := rfl
theorem subC : Statement .subC := rfl
theorem subD : Statement .subD := rfl
theorem subE : Statement .subE := rfl
theorem subH : Statement .subH := rfl
theorem subL : Statement .subL := rfl
theorem subIndHL : Statement .subIndHL := rfl
theorem subA : Statement .subA := rfl
theorem sbcAB : Statement .sbcAB := rfl
theorem sbcAC : Statement .sbcAC := rfl
theorem sbcAD : Statement .sbcAD := rfl
theorem sbcAE : Statement .sbcAE := rfl
theorem sbcAH : Statement .sbcAH := rfl
theorem sbcAL : Statement .sbcAL := rfl
theorem sbcAIndHL : Statement .sbcAIndHL := rfl
theorem sbcAA : Statement .sbcAA := rfl
theorem andB : Statement .andB := rfl
theorem andC : Statement .andC := rfl
theorem andD : Statement .andD := rfl
theorem andE : Statement .andE := rfl
theorem andH : Statement .andH := rfl
theorem andL : Statement .andL := rfl
theorem andIndHL : Statement .andIndHL := rfl
theorem andA : Statement .andA := rfl
theorem xorB : Statement .xorB := rfl
theorem xorC : Statement .xorC := rfl
theorem xorD : Statement .xorD := rfl
theorem xorE : Statement .xorE := rfl
theorem xorH : Statement .xorH := rfl
theorem xorL : Statement .xorL := rfl
theorem xorIndHL : Statement .xorIndHL := rfl
theorem xorA : Statement .xorA := rfl
theorem orB : Statement .orB := rfl
theorem orC : Statement .orC := rfl
theorem orD : Statement .orD := rfl
theorem orE : Statement .orE := rfl
theorem orH : Statement .orH := rfl
theorem orL : Statement .orL := rfl
theorem orIndHL : Statement .orIndHL := rfl
theorem orA : Statement .orA := rfl
theorem cpB : Statement .cpB := rfl
theorem cpC : Statement .cpC := rfl
theorem cpD : Statement .cpD := rfl
theorem cpE : Statement .cpE := rfl
theorem cpH : Statement .cpH := rfl
theorem cpL : Statement .cpL := rfl
theorem cpIndHL : Statement .cpIndHL := rfl
theorem cpA : Statement .cpA := rfl
theorem retNZ : Statement .retNZ := rfl
theorem popBC : Statement .popBC := rfl
theorem jpNZ (a16 : Word) : Statement (.jpNZ a16) := rfl
theorem jp (a16 : Word) : Statement (.jp a16) := rfl
theorem callNZ (a16 : Word) : Statement (.callNZ a16) := rfl
theorem pushBC : Statement .pushBC := rfl
theorem addAImm8 (d8 : Byte) : Statement (.addAImm8 d8) := rfl
theorem rst00 : Statement .rst00 := rfl
theorem retZ : Statement .retZ := rfl
theorem ret : Statement .ret := rfl
theorem jpZ (a16 : Word) : Statement (.jpZ a16) := rfl
theorem prefixCB : Statement .prefixCB := rfl
theorem callZ (a16 : Word) : Statement (.callZ a16) := rfl
theorem call (a16 : Word) : Statement (.call a16) := rfl
theorem adcAImm8 (d8 : Byte) : Statement (.adcAImm8 d8) := rfl
theorem rst08 : Statement .rst08 := rfl
theorem retNC : Statement .retNC := rfl
theorem popDE : Statement .popDE := rfl
theorem jpNC (a16 : Word) : Statement (.jpNC a16) := rfl
theorem illegalD3 : Statement .illegalD3 := rfl
theorem callNC (a16 : Word) : Statement (.callNC a16) := rfl
theorem pushDE : Statement .pushDE := rfl
theorem subImm8 (d8 : Byte) : Statement (.subImm8 d8) := rfl
theorem rst10 : Statement .rst10 := rfl
theorem retC : Statement .retC := rfl
theorem reti : Statement .reti := rfl
theorem jpC (a16 : Word) : Statement (.jpC a16) := rfl
theorem illegalDB : Statement .illegalDB := rfl
theorem callC (a16 : Word) : Statement (.callC a16) := rfl
theorem illegalDD : Statement .illegalDD := rfl
theorem sbcAImm8 (d8 : Byte) : Statement (.sbcAImm8 d8) := rfl
theorem rst18 : Statement .rst18 := rfl
theorem ldhIndA8A (a8 : Byte) : Statement (.ldhIndA8A a8) := rfl
theorem popHL : Statement .popHL := rfl
theorem ldIndCA : Statement .ldIndCA := rfl
theorem illegalE3 : Statement .illegalE3 := rfl
theorem illegalE4 : Statement .illegalE4 := rfl
theorem pushHL : Statement .pushHL := rfl
theorem andImm8 (d8 : Byte) : Statement (.andImm8 d8) := rfl
theorem rst20 : Statement .rst20 := rfl
theorem addSPe8 (e8 : Byte) : Statement (.addSPe8 e8) := rfl
theorem jpHL : Statement .jpHL := rfl
theorem ldIndA16A (a16 : Word) : Statement (.ldIndA16A a16) := rfl
theorem illegalEB : Statement .illegalEB := rfl
theorem illegalEC : Statement .illegalEC := rfl
theorem illegalED : Statement .illegalED := rfl
theorem xorImm8 (d8 : Byte) : Statement (.xorImm8 d8) := rfl
theorem rst28 : Statement .rst28 := rfl
theorem ldhAIndA8 (a8 : Byte) : Statement (.ldhAIndA8 a8) := rfl
theorem popAF : Statement .popAF := rfl
theorem ldAIndC : Statement .ldAIndC := rfl
theorem di : Statement .di := rfl
theorem illegalF4 : Statement .illegalF4 := rfl
theorem pushAF : Statement .pushAF := rfl
theorem orImm8 (d8 : Byte) : Statement (.orImm8 d8) := rfl
theorem rst30 : Statement .rst30 := rfl
theorem ldHLSPe8 (e8 : Byte) : Statement (.ldHLSPe8 e8) := rfl
theorem ldSPHL : Statement .ldSPHL := rfl
theorem ldAIndA16 (a16 : Word) : Statement (.ldAIndA16 a16) := rfl
theorem ei : Statement .ei := rfl
theorem illegalFC : Statement .illegalFC := rfl
theorem illegalFD : Statement .illegalFD := rfl
theorem cpImm8 (d8 : Byte) : Statement (.cpImm8 d8) := rfl
theorem rst38 : Statement .rst38 := rfl
theorem rlcB : Statement .rlcB := rfl
theorem rlcC : Statement .rlcC := rfl
theorem rlcD : Statement .rlcD := rfl
theorem rlcE : Statement .rlcE := rfl
theorem rlcH : Statement .rlcH := rfl
theorem rlcL : Statement .rlcL := rfl
theorem rlcIndHL : Statement .rlcIndHL := rfl
theorem rlcA : Statement .rlcA := rfl
theorem rrcB : Statement .rrcB := rfl
theorem rrcC : Statement .rrcC := rfl
theorem rrcD : Statement .rrcD := rfl
theorem rrcE : Statement .rrcE := rfl
theorem rrcH : Statement .rrcH := rfl
theorem rrcL : Statement .rrcL := rfl
theorem rrcIndHL : Statement .rrcIndHL := rfl
theorem rrcA : Statement .rrcA := rfl
theorem rlB : Statement .rlB := rfl
theorem rlC : Statement .rlC := rfl
theorem rlD : Statement .rlD := rfl
theorem rlE : Statement .rlE := rfl
theorem rlH : Statement .rlH := rfl
theorem rlL : Statement .rlL := rfl
theorem rlIndHL : Statement .rlIndHL := rfl
theorem rlA : Statement .rlA := rfl
theorem rrB : Statement .rrB := rfl
theorem rrC : Statement .rrC := rfl
theorem rrD : Statement .rrD := rfl
theorem rrE : Statement .rrE := rfl
theorem rrH : Statement .rrH := rfl
theorem rrL : Statement .rrL := rfl
theorem rrIndHL : Statement .rrIndHL := rfl
theorem rrA : Statement .rrA := rfl
theorem slaB : Statement .slaB := rfl
theorem slaC : Statement .slaC := rfl
theorem slaD : Statement .slaD := rfl
theorem slaE : Statement .slaE := rfl
theorem slaH : Statement .slaH := rfl
theorem slaL : Statement .slaL := rfl
theorem slaIndHL : Statement .slaIndHL := rfl
theorem slaA : Statement .slaA := rfl
theorem sraB : Statement .sraB := rfl
theorem sraC : Statement .sraC := rfl
theorem sraD : Statement .sraD := rfl
theorem sraE : Statement .sraE := rfl
theorem sraH : Statement .sraH := rfl
theorem sraL : Statement .sraL := rfl
theorem sraIndHL : Statement .sraIndHL := rfl
theorem sraA : Statement .sraA := rfl
theorem swapB : Statement .swapB := rfl
theorem swapC : Statement .swapC := rfl
theorem swapD : Statement .swapD := rfl
theorem swapE : Statement .swapE := rfl
theorem swapH : Statement .swapH := rfl
theorem swapL : Statement .swapL := rfl
theorem swapIndHL : Statement .swapIndHL := rfl
theorem swapA : Statement .swapA := rfl
theorem srlB : Statement .srlB := rfl
theorem srlC : Statement .srlC := rfl
theorem srlD : Statement .srlD := rfl
theorem srlE : Statement .srlE := rfl
theorem srlH : Statement .srlH := rfl
theorem srlL : Statement .srlL := rfl
theorem srlIndHL : Statement .srlIndHL := rfl
theorem srlA : Statement .srlA := rfl
theorem bit0B : Statement .bit0B := rfl
theorem bit0C : Statement .bit0C := rfl
theorem bit0D : Statement .bit0D := rfl
theorem bit0E : Statement .bit0E := rfl
theorem bit0H : Statement .bit0H := rfl
theorem bit0L : Statement .bit0L := rfl
theorem bit0IndHL : Statement .bit0IndHL := rfl
theorem bit0A : Statement .bit0A := rfl
theorem bit1B : Statement .bit1B := rfl
theorem bit1C : Statement .bit1C := rfl
theorem bit1D : Statement .bit1D := rfl
theorem bit1E : Statement .bit1E := rfl
theorem bit1H : Statement .bit1H := rfl
theorem bit1L : Statement .bit1L := rfl
theorem bit1IndHL : Statement .bit1IndHL := rfl
theorem bit1A : Statement .bit1A := rfl
theorem bit2B : Statement .bit2B := rfl
theorem bit2C : Statement .bit2C := rfl
theorem bit2D : Statement .bit2D := rfl
theorem bit2E : Statement .bit2E := rfl
theorem bit2H : Statement .bit2H := rfl
theorem bit2L : Statement .bit2L := rfl
theorem bit2IndHL : Statement .bit2IndHL := rfl
theorem bit2A : Statement .bit2A := rfl
theorem bit3B : Statement .bit3B := rfl
theorem bit3C : Statement .bit3C := rfl
theorem bit3D : Statement .bit3D := rfl
theorem bit3E : Statement .bit3E := rfl
theorem bit3H : Statement .bit3H := rfl
theorem bit3L : Statement .bit3L := rfl
theorem bit3IndHL : Statement .bit3IndHL := rfl
theorem bit3A : Statement .bit3A := rfl
theorem bit4B : Statement .bit4B := rfl
theorem bit4C : Statement .bit4C := rfl
theorem bit4D : Statement .bit4D := rfl
theorem bit4E : Statement .bit4E := rfl
theorem bit4H : Statement .bit4H := rfl
theorem bit4L : Statement .bit4L := rfl
theorem bit4IndHL : Statement .bit4IndHL := rfl
theorem bit4A : Statement .bit4A := rfl
theorem bit5B : Statement .bit5B := rfl
theorem bit5C : Statement .bit5C := rfl
theorem bit5D : Statement .bit5D := rfl
theorem bit5E : Statement .bit5E := rfl
theorem bit5H : Statement .bit5H := rfl
theorem bit5L : Statement .bit5L := rfl
theorem bit5IndHL : Statement .bit5IndHL := rfl
theorem bit5A : Statement .bit5A := rfl
theorem bit6B : Statement .bit6B := rfl
theorem bit6C : Statement .bit6C := rfl
theorem bit6D : Statement .bit6D := rfl
theorem bit6E : Statement .bit6E := rfl
theorem bit6H : Statement .bit6H := rfl
theorem bit6L : Statement .bit6L := rfl
theorem bit6IndHL : Statement .bit6IndHL := rfl
theorem bit6A : Statement .bit6A := rfl
theorem bit7B : Statement .bit7B := rfl
theorem bit7C : Statement .bit7C := rfl
theorem bit7D : Statement .bit7D := rfl
theorem bit7E : Statement .bit7E := rfl
theorem bit7H : Statement .bit7H := rfl
theorem bit7L : Statement .bit7L := rfl
theorem bit7IndHL : Statement .bit7IndHL := rfl
theorem bit7A : Statement .bit7A := rfl
theorem res0B : Statement .res0B := rfl
theorem res0C : Statement .res0C := rfl
theorem res0D : Statement .res0D := rfl
theorem res0E : Statement .res0E := rfl
theorem res0H : Statement .res0H := rfl
theorem res0L : Statement .res0L := rfl
theorem res0IndHL : Statement .res0IndHL := rfl
theorem res0A : Statement .res0A := rfl
theorem res1B : Statement .res1B := rfl
theorem res1C : Statement .res1C := rfl
theorem res1D : Statement .res1D := rfl
theorem res1E : Statement .res1E := rfl
theorem res1H : Statement .res1H := rfl
theorem res1L : Statement .res1L := rfl
theorem res1IndHL : Statement .res1IndHL := rfl
theorem res1A : Statement .res1A := rfl
theorem res2B : Statement .res2B := rfl
theorem res2C : Statement .res2C := rfl
theorem res2D : Statement .res2D := rfl
theorem res2E : Statement .res2E := rfl
theorem res2H : Statement .res2H := rfl
theorem res2L : Statement .res2L := rfl
theorem res2IndHL : Statement .res2IndHL := rfl
theorem res2A : Statement .res2A := rfl
theorem res3B : Statement .res3B := rfl
theorem res3C : Statement .res3C := rfl
theorem res3D : Statement .res3D := rfl
theorem res3E : Statement .res3E := rfl
theorem res3H : Statement .res3H := rfl
theorem res3L : Statement .res3L := rfl
theorem res3IndHL : Statement .res3IndHL := rfl
theorem res3A : Statement .res3A := rfl
theorem res4B : Statement .res4B := rfl
theorem res4C : Statement .res4C := rfl
theorem res4D : Statement .res4D := rfl
theorem res4E : Statement .res4E := rfl
theorem res4H : Statement .res4H := rfl
theorem res4L : Statement .res4L := rfl
theorem res4IndHL : Statement .res4IndHL := rfl
theorem res4A : Statement .res4A := rfl
theorem res5B : Statement .res5B := rfl
theorem res5C : Statement .res5C := rfl
theorem res5D : Statement .res5D := rfl
theorem res5E : Statement .res5E := rfl
theorem res5H : Statement .res5H := rfl
theorem res5L : Statement .res5L := rfl
theorem res5IndHL : Statement .res5IndHL := rfl
theorem res5A : Statement .res5A := rfl
theorem res6B : Statement .res6B := rfl
theorem res6C : Statement .res6C := rfl
theorem res6D : Statement .res6D := rfl
theorem res6E : Statement .res6E := rfl
theorem res6H : Statement .res6H := rfl
theorem res6L : Statement .res6L := rfl
theorem res6IndHL : Statement .res6IndHL := rfl
theorem res6A : Statement .res6A := rfl
theorem res7B : Statement .res7B := rfl
theorem res7C : Statement .res7C := rfl
theorem res7D : Statement .res7D := rfl
theorem res7E : Statement .res7E := rfl
theorem res7H : Statement .res7H := rfl
theorem res7L : Statement .res7L := rfl
theorem res7IndHL : Statement .res7IndHL := rfl
theorem res7A : Statement .res7A := rfl
theorem set0B : Statement .set0B := rfl
theorem set0C : Statement .set0C := rfl
theorem set0D : Statement .set0D := rfl
theorem set0E : Statement .set0E := rfl
theorem set0H : Statement .set0H := rfl
theorem set0L : Statement .set0L := rfl
theorem set0IndHL : Statement .set0IndHL := rfl
theorem set0A : Statement .set0A := rfl
theorem set1B : Statement .set1B := rfl
theorem set1C : Statement .set1C := rfl
theorem set1D : Statement .set1D := rfl
theorem set1E : Statement .set1E := rfl
theorem set1H : Statement .set1H := rfl
theorem set1L : Statement .set1L := rfl
theorem set1IndHL : Statement .set1IndHL := rfl
theorem set1A : Statement .set1A := rfl
theorem set2B : Statement .set2B := rfl
theorem set2C : Statement .set2C := rfl
theorem set2D : Statement .set2D := rfl
theorem set2E : Statement .set2E := rfl
theorem set2H : Statement .set2H := rfl
theorem set2L : Statement .set2L := rfl
theorem set2IndHL : Statement .set2IndHL := rfl
theorem set2A : Statement .set2A := rfl
theorem set3B : Statement .set3B := rfl
theorem set3C : Statement .set3C := rfl
theorem set3D : Statement .set3D := rfl
theorem set3E : Statement .set3E := rfl
theorem set3H : Statement .set3H := rfl
theorem set3L : Statement .set3L := rfl
theorem set3IndHL : Statement .set3IndHL := rfl
theorem set3A : Statement .set3A := rfl
theorem set4B : Statement .set4B := rfl
theorem set4C : Statement .set4C := rfl
theorem set4D : Statement .set4D := rfl
theorem set4E : Statement .set4E := rfl
theorem set4H : Statement .set4H := rfl
theorem set4L : Statement .set4L := rfl
theorem set4IndHL : Statement .set4IndHL := rfl
theorem set4A : Statement .set4A := rfl
theorem set5B : Statement .set5B := rfl
theorem set5C : Statement .set5C := rfl
theorem set5D : Statement .set5D := rfl
theorem set5E : Statement .set5E := rfl
theorem set5H : Statement .set5H := rfl
theorem set5L : Statement .set5L := rfl
theorem set5IndHL : Statement .set5IndHL := rfl
theorem set5A : Statement .set5A := rfl
theorem set6B : Statement .set6B := rfl
theorem set6C : Statement .set6C := rfl
theorem set6D : Statement .set6D := rfl
theorem set6E : Statement .set6E := rfl
theorem set6H : Statement .set6H := rfl
theorem set6L : Statement .set6L := rfl
theorem set6IndHL : Statement .set6IndHL := rfl
theorem set6A : Statement .set6A := rfl
theorem set7B : Statement .set7B := rfl
theorem set7C : Statement .set7C := rfl
theorem set7D : Statement .set7D := rfl
theorem set7E : Statement .set7E := rfl
theorem set7H : Statement .set7H := rfl
theorem set7L : Statement .set7L := rfl
theorem set7IndHL : Statement .set7IndHL := rfl
theorem set7A : Statement .set7A := rfl

end Sys2Proof.Laws.EncodedLength
end

