-- ==== Sys2Proof/Tests/Slice0.lean ====
section
/-! SUPPORT. The model's own tests. Every expected value comes from spec/: the opcode maps and lengths of
30_encoding.md, the vectors of 95_test_vectors.md (L1, L2), and the rules named beside a test. Then one
witness for the hypotheses of each statement that has any. -/

namespace Sys2Proof.Tests

open Sys2Proof.Machine Sys2Proof.Claims

/-! ## Helpers -/

/-- A state with the bytes of one instruction at PC = 0x0100, in `nop` mode, all else 0 (95_test_vectors.md,
conventions). -/
def start (bytes : List Byte) : State :=
  State.placeBytes { State.reset with pc := 0x0100#16, illegalMode := .nop } 0x0100#16 bytes

/-- The state after one step. -/
def after (s : State) : State :=
  match step s with
  | .next t => t
  | _ => s

/-- A, F, PC and the count. -/
abbrev showsAF (a f : Byte) (pc : Word) (cycles : Nat) (t : State) : Prop :=
  t.a = a ∧ t.f = f ∧ t.pc = pc ∧ t.result = .ok cycles

/-- The byte at 0xC000, F, PC and the count. -/
abbrev showsMF (m f : Byte) (pc : Word) (cycles : Nat) (t : State) : Prop :=
  t.readByte 0xC000#16 = m ∧ t.f = f ∧ t.pc = pc ∧ t.result = .ok cycles

/-- The same state with HL = 0xC000 and a byte there. -/
def withMem (m : Byte) (s : State) : State := { s.writeByte 0xC000#16 m with h := 0xC0#8, l := 0x00#8 }

/-- Each list of bytes decodes to the instruction beside it, with nothing left over. -/
abbrev DecodeTo (pairs : List (List Byte × Instr)) : Prop := ∀ p ∈ pairs, decode p.1 = .ok (p.2, [])

/-! ## Well-formedness: the one check, and a term it refuses -/

theorem test_prefix_alone_is_ill_formed : Instr.wellFormed .prefixCB = false := by decide

theorem test_operand_rows_are_well_formed :
    Instr.wellFormed (.jp 0xFFFF#16) = true ∧ Instr.wellFormed (.ldIndHLImm8 0xFF#8) = true ∧
      Instr.wellFormed .illegalFD = true := by decide

/-! ## Decoding, bit by bit from the encodings of 30_encoding.md §2 and §3 -/

/-- Block x = 2 (R120): 10 alu r; y = 001 is ADC, z = 110 is (HL). -/
theorem test_word_adc_indHL : decode [0b10001110#8] = .ok (.adcAIndHL, []) := by decide

/-- Block x = 3, z = 6 (R121): 11 alu 110; y = 111 is CP. -/
theorem test_word_cp_d8 : decode [0b11111110#8, 0x40#8] = .ok (.cpImm8 0x40#8, []) := by decide

/-- Block x = 0, z = 1, q = 1 (R118): 00 rr 1001; p = 11 is SP. -/
theorem test_word_addHL_SP : decode [0b00111001#8] = .ok (.addHLSP, []) := by decide

/-- CB block x = 0 (R122): 00 op r; y = 101 is SRA, z = 101 is L. -/
theorem test_word_sra_l : decode [0xCB#8, 0b00101101#8] = .ok (.sraL, []) := by decide

/-- CB block x = 2: 10 b r; b = 4, z = 100 is H. -/
theorem test_word_res4_h : decode [0xCB#8, 0b10100100#8] = .ok (.res4H, []) := by decide

/-- Block x = 1 (R119): 01 d s; d = 100 is H, s = 110 is (HL). -/
theorem test_word_ldH_indHL : decode [0b01100110#8] = .ok (.ldHIndHL, []) := by decide

/-- Block x = 1, y = z = 6 (R119): HALT. -/
theorem test_word_halt : decode [0b01110110#8] = .ok (.halt, []) := by decide

/-- Block x = 0, z = 2 (R118): 00 mem 0010; p = 10 is HL+. -/
theorem test_word_store_hlInc : decode [0b00100010#8] = .ok (.ldIndHLIncA, []) := by decide

/-- Block x = 3, z = 4 (R121): 11 0cc 100 and a little-endian address (R113); cc = 3 is C. -/
theorem test_word_call_c : decode [0b11011100#8, 0x34#8, 0x12#8] = .ok (.callC 0x1234#16, []) := by decide

/-- Block x = 3, z = 7: 11 y 111; y = 5 is RST 0x28. -/
theorem test_word_rst28 : decode [0b11101111#8] = .ok (.rst28, []) := by decide

/-- An illegal opcode is one byte (R123): the byte after it is left over. -/
theorem test_word_illegal : decode [0b11010011#8, 0x00#8] = .ok (.illegalD3, [0x00#8]) := by decide

/-- A list that ends inside an instruction is refused by name. -/
theorem test_short_bytes_refused :
    decode [0xC3#8, 0x34#8] = .error (.endsInsideInstruction 0xC3#8) ∧ decode [] = .error .noBytes := by decide

/-! ## Decoding, every row: the base map (R133) and the CB map (R134), 16 opcodes a theorem -/

theorem test_map_row_0 : DecodeTo [
    ([0x00#8], .nop), ([0x01#8, 0x34#8, 0x12#8], .ldBCImm16 0x1234#16), ([0x02#8], .ldIndBCA),
    ([0x03#8], .incBC), ([0x04#8], .incB), ([0x05#8], .decB), ([0x06#8, 0x5A#8], .ldBImm8 0x5A#8),
    ([0x07#8], .rlca), ([0x08#8, 0x34#8, 0x12#8], .ldIndA16SP 0x1234#16), ([0x09#8], .addHLBC),
    ([0x0A#8], .ldAIndBC), ([0x0B#8], .decBC), ([0x0C#8], .incC), ([0x0D#8], .decC),
    ([0x0E#8, 0x5A#8], .ldCImm8 0x5A#8), ([0x0F#8], .rrca)] := by
  decide

theorem test_map_row_1 : DecodeTo [
    ([0x10#8, 0x5A#8], .stop 0x5A#8), ([0x11#8, 0x34#8, 0x12#8], .ldDEImm16 0x1234#16), ([0x12#8], .ldIndDEA),
    ([0x13#8], .incDE), ([0x14#8], .incD), ([0x15#8], .decD), ([0x16#8, 0x5A#8], .ldDImm8 0x5A#8),
    ([0x17#8], .rla), ([0x18#8, 0x5A#8], .jr 0x5A#8), ([0x19#8], .addHLDE), ([0x1A#8], .ldAIndDE),
    ([0x1B#8], .decDE), ([0x1C#8], .incE), ([0x1D#8], .decE), ([0x1E#8, 0x5A#8], .ldEImm8 0x5A#8),
    ([0x1F#8], .rra)] := by
  decide

theorem test_map_row_2 : DecodeTo [
    ([0x20#8, 0x5A#8], .jrNZ 0x5A#8), ([0x21#8, 0x34#8, 0x12#8], .ldHLImm16 0x1234#16),
    ([0x22#8], .ldIndHLIncA), ([0x23#8], .incHL), ([0x24#8], .incH), ([0x25#8], .decH),
    ([0x26#8, 0x5A#8], .ldHImm8 0x5A#8), ([0x27#8], .daa), ([0x28#8, 0x5A#8], .jrZ 0x5A#8),
    ([0x29#8], .addHLHL), ([0x2A#8], .ldAIndHLInc), ([0x2B#8], .decHL), ([0x2C#8], .incL), ([0x2D#8], .decL),
    ([0x2E#8, 0x5A#8], .ldLImm8 0x5A#8), ([0x2F#8], .cpl)] := by
  decide

theorem test_map_row_3 : DecodeTo [
    ([0x30#8, 0x5A#8], .jrNC 0x5A#8), ([0x31#8, 0x34#8, 0x12#8], .ldSPImm16 0x1234#16),
    ([0x32#8], .ldIndHLDecA), ([0x33#8], .incSP), ([0x34#8], .incIndHL), ([0x35#8], .decIndHL),
    ([0x36#8, 0x5A#8], .ldIndHLImm8 0x5A#8), ([0x37#8], .scf), ([0x38#8, 0x5A#8], .jrC 0x5A#8),
    ([0x39#8], .addHLSP), ([0x3A#8], .ldAIndHLDec), ([0x3B#8], .decSP), ([0x3C#8], .incA), ([0x3D#8], .decA),
    ([0x3E#8, 0x5A#8], .ldAImm8 0x5A#8), ([0x3F#8], .ccf)] := by
  decide

theorem test_map_row_4 : DecodeTo [
    ([0x40#8], .ldBB), ([0x41#8], .ldBC), ([0x42#8], .ldBD), ([0x43#8], .ldBE), ([0x44#8], .ldBH),
    ([0x45#8], .ldBL), ([0x46#8], .ldBIndHL), ([0x47#8], .ldBA), ([0x48#8], .ldCB), ([0x49#8], .ldCC),
    ([0x4A#8], .ldCD), ([0x4B#8], .ldCE), ([0x4C#8], .ldCH), ([0x4D#8], .ldCL), ([0x4E#8], .ldCIndHL),
    ([0x4F#8], .ldCA)] := by
  decide

theorem test_map_row_5 : DecodeTo [
    ([0x50#8], .ldDB), ([0x51#8], .ldDC), ([0x52#8], .ldDD), ([0x53#8], .ldDE), ([0x54#8], .ldDH),
    ([0x55#8], .ldDL), ([0x56#8], .ldDIndHL), ([0x57#8], .ldDA), ([0x58#8], .ldEB), ([0x59#8], .ldEC),
    ([0x5A#8], .ldED), ([0x5B#8], .ldEE), ([0x5C#8], .ldEH), ([0x5D#8], .ldEL), ([0x5E#8], .ldEIndHL),
    ([0x5F#8], .ldEA)] := by
  decide

theorem test_map_row_6 : DecodeTo [
    ([0x60#8], .ldHB), ([0x61#8], .ldHC), ([0x62#8], .ldHD), ([0x63#8], .ldHE), ([0x64#8], .ldHH),
    ([0x65#8], .ldHL), ([0x66#8], .ldHIndHL), ([0x67#8], .ldHA), ([0x68#8], .ldLB), ([0x69#8], .ldLC),
    ([0x6A#8], .ldLD), ([0x6B#8], .ldLE), ([0x6C#8], .ldLH), ([0x6D#8], .ldLL), ([0x6E#8], .ldLIndHL),
    ([0x6F#8], .ldLA)] := by
  decide

theorem test_map_row_7 : DecodeTo [
    ([0x70#8], .ldIndHLB), ([0x71#8], .ldIndHLC), ([0x72#8], .ldIndHLD), ([0x73#8], .ldIndHLE),
    ([0x74#8], .ldIndHLH), ([0x75#8], .ldIndHLL), ([0x76#8], .halt), ([0x77#8], .ldIndHLA), ([0x78#8], .ldAB),
    ([0x79#8], .ldAC), ([0x7A#8], .ldAD), ([0x7B#8], .ldAE), ([0x7C#8], .ldAH), ([0x7D#8], .ldAL),
    ([0x7E#8], .ldAIndHL), ([0x7F#8], .ldAA)] := by
  decide

theorem test_map_row_8 : DecodeTo [
    ([0x80#8], .addAB), ([0x81#8], .addAC), ([0x82#8], .addAD), ([0x83#8], .addAE), ([0x84#8], .addAH),
    ([0x85#8], .addAL), ([0x86#8], .addAIndHL), ([0x87#8], .addAA), ([0x88#8], .adcAB), ([0x89#8], .adcAC),
    ([0x8A#8], .adcAD), ([0x8B#8], .adcAE), ([0x8C#8], .adcAH), ([0x8D#8], .adcAL), ([0x8E#8], .adcAIndHL),
    ([0x8F#8], .adcAA)] := by
  decide

theorem test_map_row_9 : DecodeTo [
    ([0x90#8], .subB), ([0x91#8], .subC), ([0x92#8], .subD), ([0x93#8], .subE), ([0x94#8], .subH),
    ([0x95#8], .subL), ([0x96#8], .subIndHL), ([0x97#8], .subA), ([0x98#8], .sbcAB), ([0x99#8], .sbcAC),
    ([0x9A#8], .sbcAD), ([0x9B#8], .sbcAE), ([0x9C#8], .sbcAH), ([0x9D#8], .sbcAL), ([0x9E#8], .sbcAIndHL),
    ([0x9F#8], .sbcAA)] := by
  decide

theorem test_map_row_A : DecodeTo [
    ([0xA0#8], .andB), ([0xA1#8], .andC), ([0xA2#8], .andD), ([0xA3#8], .andE), ([0xA4#8], .andH),
    ([0xA5#8], .andL), ([0xA6#8], .andIndHL), ([0xA7#8], .andA), ([0xA8#8], .xorB), ([0xA9#8], .xorC),
    ([0xAA#8], .xorD), ([0xAB#8], .xorE), ([0xAC#8], .xorH), ([0xAD#8], .xorL), ([0xAE#8], .xorIndHL),
    ([0xAF#8], .xorA)] := by
  decide

theorem test_map_row_B : DecodeTo [
    ([0xB0#8], .orB), ([0xB1#8], .orC), ([0xB2#8], .orD), ([0xB3#8], .orE), ([0xB4#8], .orH), ([0xB5#8], .orL),
    ([0xB6#8], .orIndHL), ([0xB7#8], .orA), ([0xB8#8], .cpB), ([0xB9#8], .cpC), ([0xBA#8], .cpD),
    ([0xBB#8], .cpE), ([0xBC#8], .cpH), ([0xBD#8], .cpL), ([0xBE#8], .cpIndHL), ([0xBF#8], .cpA)] := by
  decide

theorem test_map_row_C : DecodeTo [
    ([0xC0#8], .retNZ), ([0xC1#8], .popBC), ([0xC2#8, 0x34#8, 0x12#8], .jpNZ 0x1234#16),
    ([0xC3#8, 0x34#8, 0x12#8], .jp 0x1234#16), ([0xC4#8, 0x34#8, 0x12#8], .callNZ 0x1234#16),
    ([0xC5#8], .pushBC), ([0xC6#8, 0x5A#8], .addAImm8 0x5A#8), ([0xC7#8], .rst00), ([0xC8#8], .retZ),
    ([0xC9#8], .ret), ([0xCA#8, 0x34#8, 0x12#8], .jpZ 0x1234#16), ([0xCB#8], .prefixCB),
    ([0xCC#8, 0x34#8, 0x12#8], .callZ 0x1234#16), ([0xCD#8, 0x34#8, 0x12#8], .call 0x1234#16),
    ([0xCE#8, 0x5A#8], .adcAImm8 0x5A#8), ([0xCF#8], .rst08)] := by
  decide

theorem test_map_row_D : DecodeTo [
    ([0xD0#8], .retNC), ([0xD1#8], .popDE), ([0xD2#8, 0x34#8, 0x12#8], .jpNC 0x1234#16),
    ([0xD3#8], .illegalD3), ([0xD4#8, 0x34#8, 0x12#8], .callNC 0x1234#16), ([0xD5#8], .pushDE),
    ([0xD6#8, 0x5A#8], .subImm8 0x5A#8), ([0xD7#8], .rst10), ([0xD8#8], .retC), ([0xD9#8], .reti),
    ([0xDA#8, 0x34#8, 0x12#8], .jpC 0x1234#16), ([0xDB#8], .illegalDB),
    ([0xDC#8, 0x34#8, 0x12#8], .callC 0x1234#16), ([0xDD#8], .illegalDD), ([0xDE#8, 0x5A#8], .sbcAImm8 0x5A#8),
    ([0xDF#8], .rst18)] := by
  decide

theorem test_map_row_E : DecodeTo [
    ([0xE0#8, 0x5A#8], .ldhIndA8A 0x5A#8), ([0xE1#8], .popHL), ([0xE2#8], .ldIndCA), ([0xE3#8], .illegalE3),
    ([0xE4#8], .illegalE4), ([0xE5#8], .pushHL), ([0xE6#8, 0x5A#8], .andImm8 0x5A#8), ([0xE7#8], .rst20),
    ([0xE8#8, 0x5A#8], .addSPe8 0x5A#8), ([0xE9#8], .jpHL), ([0xEA#8, 0x34#8, 0x12#8], .ldIndA16A 0x1234#16),
    ([0xEB#8], .illegalEB), ([0xEC#8], .illegalEC), ([0xED#8], .illegalED),
    ([0xEE#8, 0x5A#8], .xorImm8 0x5A#8), ([0xEF#8], .rst28)] := by
  decide

theorem test_map_row_F : DecodeTo [
    ([0xF0#8, 0x5A#8], .ldhAIndA8 0x5A#8), ([0xF1#8], .popAF), ([0xF2#8], .ldAIndC), ([0xF3#8], .di),
    ([0xF4#8], .illegalF4), ([0xF5#8], .pushAF), ([0xF6#8, 0x5A#8], .orImm8 0x5A#8), ([0xF7#8], .rst30),
    ([0xF8#8, 0x5A#8], .ldHLSPe8 0x5A#8), ([0xF9#8], .ldSPHL),
    ([0xFA#8, 0x34#8, 0x12#8], .ldAIndA16 0x1234#16), ([0xFB#8], .ei), ([0xFC#8], .illegalFC),
    ([0xFD#8], .illegalFD), ([0xFE#8, 0x5A#8], .cpImm8 0x5A#8), ([0xFF#8], .rst38)] := by
  decide

theorem test_cb_map_row_0 : DecodeTo [
    ([0xCB#8, 0x00#8], .rlcB), ([0xCB#8, 0x01#8], .rlcC), ([0xCB#8, 0x02#8], .rlcD), ([0xCB#8, 0x03#8], .rlcE),
    ([0xCB#8, 0x04#8], .rlcH), ([0xCB#8, 0x05#8], .rlcL), ([0xCB#8, 0x06#8], .rlcIndHL),
    ([0xCB#8, 0x07#8], .rlcA), ([0xCB#8, 0x08#8], .rrcB), ([0xCB#8, 0x09#8], .rrcC), ([0xCB#8, 0x0A#8], .rrcD),
    ([0xCB#8, 0x0B#8], .rrcE), ([0xCB#8, 0x0C#8], .rrcH), ([0xCB#8, 0x0D#8], .rrcL),
    ([0xCB#8, 0x0E#8], .rrcIndHL), ([0xCB#8, 0x0F#8], .rrcA)] := by
  decide

theorem test_cb_map_row_1 : DecodeTo [
    ([0xCB#8, 0x10#8], .rlB), ([0xCB#8, 0x11#8], .rlC), ([0xCB#8, 0x12#8], .rlD), ([0xCB#8, 0x13#8], .rlE),
    ([0xCB#8, 0x14#8], .rlH), ([0xCB#8, 0x15#8], .rlL), ([0xCB#8, 0x16#8], .rlIndHL), ([0xCB#8, 0x17#8], .rlA),
    ([0xCB#8, 0x18#8], .rrB), ([0xCB#8, 0x19#8], .rrC), ([0xCB#8, 0x1A#8], .rrD), ([0xCB#8, 0x1B#8], .rrE),
    ([0xCB#8, 0x1C#8], .rrH), ([0xCB#8, 0x1D#8], .rrL), ([0xCB#8, 0x1E#8], .rrIndHL), ([0xCB#8, 0x1F#8], .rrA)] := by
  decide

theorem test_cb_map_row_2 : DecodeTo [
    ([0xCB#8, 0x20#8], .slaB), ([0xCB#8, 0x21#8], .slaC), ([0xCB#8, 0x22#8], .slaD), ([0xCB#8, 0x23#8], .slaE),
    ([0xCB#8, 0x24#8], .slaH), ([0xCB#8, 0x25#8], .slaL), ([0xCB#8, 0x26#8], .slaIndHL),
    ([0xCB#8, 0x27#8], .slaA), ([0xCB#8, 0x28#8], .sraB), ([0xCB#8, 0x29#8], .sraC), ([0xCB#8, 0x2A#8], .sraD),
    ([0xCB#8, 0x2B#8], .sraE), ([0xCB#8, 0x2C#8], .sraH), ([0xCB#8, 0x2D#8], .sraL),
    ([0xCB#8, 0x2E#8], .sraIndHL), ([0xCB#8, 0x2F#8], .sraA)] := by
  decide

theorem test_cb_map_row_3 : DecodeTo [
    ([0xCB#8, 0x30#8], .swapB), ([0xCB#8, 0x31#8], .swapC), ([0xCB#8, 0x32#8], .swapD),
    ([0xCB#8, 0x33#8], .swapE), ([0xCB#8, 0x34#8], .swapH), ([0xCB#8, 0x35#8], .swapL),
    ([0xCB#8, 0x36#8], .swapIndHL), ([0xCB#8, 0x37#8], .swapA), ([0xCB#8, 0x38#8], .srlB),
    ([0xCB#8, 0x39#8], .srlC), ([0xCB#8, 0x3A#8], .srlD), ([0xCB#8, 0x3B#8], .srlE), ([0xCB#8, 0x3C#8], .srlH),
    ([0xCB#8, 0x3D#8], .srlL), ([0xCB#8, 0x3E#8], .srlIndHL), ([0xCB#8, 0x3F#8], .srlA)] := by
  decide

theorem test_cb_map_row_4 : DecodeTo [
    ([0xCB#8, 0x40#8], .bit0B), ([0xCB#8, 0x41#8], .bit0C), ([0xCB#8, 0x42#8], .bit0D),
    ([0xCB#8, 0x43#8], .bit0E), ([0xCB#8, 0x44#8], .bit0H), ([0xCB#8, 0x45#8], .bit0L),
    ([0xCB#8, 0x46#8], .bit0IndHL), ([0xCB#8, 0x47#8], .bit0A), ([0xCB#8, 0x48#8], .bit1B),
    ([0xCB#8, 0x49#8], .bit1C), ([0xCB#8, 0x4A#8], .bit1D), ([0xCB#8, 0x4B#8], .bit1E),
    ([0xCB#8, 0x4C#8], .bit1H), ([0xCB#8, 0x4D#8], .bit1L), ([0xCB#8, 0x4E#8], .bit1IndHL),
    ([0xCB#8, 0x4F#8], .bit1A)] := by
  decide

theorem test_cb_map_row_5 : DecodeTo [
    ([0xCB#8, 0x50#8], .bit2B), ([0xCB#8, 0x51#8], .bit2C), ([0xCB#8, 0x52#8], .bit2D),
    ([0xCB#8, 0x53#8], .bit2E), ([0xCB#8, 0x54#8], .bit2H), ([0xCB#8, 0x55#8], .bit2L),
    ([0xCB#8, 0x56#8], .bit2IndHL), ([0xCB#8, 0x57#8], .bit2A), ([0xCB#8, 0x58#8], .bit3B),
    ([0xCB#8, 0x59#8], .bit3C), ([0xCB#8, 0x5A#8], .bit3D), ([0xCB#8, 0x5B#8], .bit3E),
    ([0xCB#8, 0x5C#8], .bit3H), ([0xCB#8, 0x5D#8], .bit3L), ([0xCB#8, 0x5E#8], .bit3IndHL),
    ([0xCB#8, 0x5F#8], .bit3A)] := by
  decide

theorem test_cb_map_row_6 : DecodeTo [
    ([0xCB#8, 0x60#8], .bit4B), ([0xCB#8, 0x61#8], .bit4C), ([0xCB#8, 0x62#8], .bit4D),
    ([0xCB#8, 0x63#8], .bit4E), ([0xCB#8, 0x64#8], .bit4H), ([0xCB#8, 0x65#8], .bit4L),
    ([0xCB#8, 0x66#8], .bit4IndHL), ([0xCB#8, 0x67#8], .bit4A), ([0xCB#8, 0x68#8], .bit5B),
    ([0xCB#8, 0x69#8], .bit5C), ([0xCB#8, 0x6A#8], .bit5D), ([0xCB#8, 0x6B#8], .bit5E),
    ([0xCB#8, 0x6C#8], .bit5H), ([0xCB#8, 0x6D#8], .bit5L), ([0xCB#8, 0x6E#8], .bit5IndHL),
    ([0xCB#8, 0x6F#8], .bit5A)] := by
  decide

theorem test_cb_map_row_7 : DecodeTo [
    ([0xCB#8, 0x70#8], .bit6B), ([0xCB#8, 0x71#8], .bit6C), ([0xCB#8, 0x72#8], .bit6D),
    ([0xCB#8, 0x73#8], .bit6E), ([0xCB#8, 0x74#8], .bit6H), ([0xCB#8, 0x75#8], .bit6L),
    ([0xCB#8, 0x76#8], .bit6IndHL), ([0xCB#8, 0x77#8], .bit6A), ([0xCB#8, 0x78#8], .bit7B),
    ([0xCB#8, 0x79#8], .bit7C), ([0xCB#8, 0x7A#8], .bit7D), ([0xCB#8, 0x7B#8], .bit7E),
    ([0xCB#8, 0x7C#8], .bit7H), ([0xCB#8, 0x7D#8], .bit7L), ([0xCB#8, 0x7E#8], .bit7IndHL),
    ([0xCB#8, 0x7F#8], .bit7A)] := by
  decide

theorem test_cb_map_row_8 : DecodeTo [
    ([0xCB#8, 0x80#8], .res0B), ([0xCB#8, 0x81#8], .res0C), ([0xCB#8, 0x82#8], .res0D),
    ([0xCB#8, 0x83#8], .res0E), ([0xCB#8, 0x84#8], .res0H), ([0xCB#8, 0x85#8], .res0L),
    ([0xCB#8, 0x86#8], .res0IndHL), ([0xCB#8, 0x87#8], .res0A), ([0xCB#8, 0x88#8], .res1B),
    ([0xCB#8, 0x89#8], .res1C), ([0xCB#8, 0x8A#8], .res1D), ([0xCB#8, 0x8B#8], .res1E),
    ([0xCB#8, 0x8C#8], .res1H), ([0xCB#8, 0x8D#8], .res1L), ([0xCB#8, 0x8E#8], .res1IndHL),
    ([0xCB#8, 0x8F#8], .res1A)] := by
  decide

theorem test_cb_map_row_9 : DecodeTo [
    ([0xCB#8, 0x90#8], .res2B), ([0xCB#8, 0x91#8], .res2C), ([0xCB#8, 0x92#8], .res2D),
    ([0xCB#8, 0x93#8], .res2E), ([0xCB#8, 0x94#8], .res2H), ([0xCB#8, 0x95#8], .res2L),
    ([0xCB#8, 0x96#8], .res2IndHL), ([0xCB#8, 0x97#8], .res2A), ([0xCB#8, 0x98#8], .res3B),
    ([0xCB#8, 0x99#8], .res3C), ([0xCB#8, 0x9A#8], .res3D), ([0xCB#8, 0x9B#8], .res3E),
    ([0xCB#8, 0x9C#8], .res3H), ([0xCB#8, 0x9D#8], .res3L), ([0xCB#8, 0x9E#8], .res3IndHL),
    ([0xCB#8, 0x9F#8], .res3A)] := by
  decide

theorem test_cb_map_row_A : DecodeTo [
    ([0xCB#8, 0xA0#8], .res4B), ([0xCB#8, 0xA1#8], .res4C), ([0xCB#8, 0xA2#8], .res4D),
    ([0xCB#8, 0xA3#8], .res4E), ([0xCB#8, 0xA4#8], .res4H), ([0xCB#8, 0xA5#8], .res4L),
    ([0xCB#8, 0xA6#8], .res4IndHL), ([0xCB#8, 0xA7#8], .res4A), ([0xCB#8, 0xA8#8], .res5B),
    ([0xCB#8, 0xA9#8], .res5C), ([0xCB#8, 0xAA#8], .res5D), ([0xCB#8, 0xAB#8], .res5E),
    ([0xCB#8, 0xAC#8], .res5H), ([0xCB#8, 0xAD#8], .res5L), ([0xCB#8, 0xAE#8], .res5IndHL),
    ([0xCB#8, 0xAF#8], .res5A)] := by
  decide

theorem test_cb_map_row_B : DecodeTo [
    ([0xCB#8, 0xB0#8], .res6B), ([0xCB#8, 0xB1#8], .res6C), ([0xCB#8, 0xB2#8], .res6D),
    ([0xCB#8, 0xB3#8], .res6E), ([0xCB#8, 0xB4#8], .res6H), ([0xCB#8, 0xB5#8], .res6L),
    ([0xCB#8, 0xB6#8], .res6IndHL), ([0xCB#8, 0xB7#8], .res6A), ([0xCB#8, 0xB8#8], .res7B),
    ([0xCB#8, 0xB9#8], .res7C), ([0xCB#8, 0xBA#8], .res7D), ([0xCB#8, 0xBB#8], .res7E),
    ([0xCB#8, 0xBC#8], .res7H), ([0xCB#8, 0xBD#8], .res7L), ([0xCB#8, 0xBE#8], .res7IndHL),
    ([0xCB#8, 0xBF#8], .res7A)] := by
  decide

theorem test_cb_map_row_C : DecodeTo [
    ([0xCB#8, 0xC0#8], .set0B), ([0xCB#8, 0xC1#8], .set0C), ([0xCB#8, 0xC2#8], .set0D),
    ([0xCB#8, 0xC3#8], .set0E), ([0xCB#8, 0xC4#8], .set0H), ([0xCB#8, 0xC5#8], .set0L),
    ([0xCB#8, 0xC6#8], .set0IndHL), ([0xCB#8, 0xC7#8], .set0A), ([0xCB#8, 0xC8#8], .set1B),
    ([0xCB#8, 0xC9#8], .set1C), ([0xCB#8, 0xCA#8], .set1D), ([0xCB#8, 0xCB#8], .set1E),
    ([0xCB#8, 0xCC#8], .set1H), ([0xCB#8, 0xCD#8], .set1L), ([0xCB#8, 0xCE#8], .set1IndHL),
    ([0xCB#8, 0xCF#8], .set1A)] := by
  decide

theorem test_cb_map_row_D : DecodeTo [
    ([0xCB#8, 0xD0#8], .set2B), ([0xCB#8, 0xD1#8], .set2C), ([0xCB#8, 0xD2#8], .set2D),
    ([0xCB#8, 0xD3#8], .set2E), ([0xCB#8, 0xD4#8], .set2H), ([0xCB#8, 0xD5#8], .set2L),
    ([0xCB#8, 0xD6#8], .set2IndHL), ([0xCB#8, 0xD7#8], .set2A), ([0xCB#8, 0xD8#8], .set3B),
    ([0xCB#8, 0xD9#8], .set3C), ([0xCB#8, 0xDA#8], .set3D), ([0xCB#8, 0xDB#8], .set3E),
    ([0xCB#8, 0xDC#8], .set3H), ([0xCB#8, 0xDD#8], .set3L), ([0xCB#8, 0xDE#8], .set3IndHL),
    ([0xCB#8, 0xDF#8], .set3A)] := by
  decide

theorem test_cb_map_row_E : DecodeTo [
    ([0xCB#8, 0xE0#8], .set4B), ([0xCB#8, 0xE1#8], .set4C), ([0xCB#8, 0xE2#8], .set4D),
    ([0xCB#8, 0xE3#8], .set4E), ([0xCB#8, 0xE4#8], .set4H), ([0xCB#8, 0xE5#8], .set4L),
    ([0xCB#8, 0xE6#8], .set4IndHL), ([0xCB#8, 0xE7#8], .set4A), ([0xCB#8, 0xE8#8], .set5B),
    ([0xCB#8, 0xE9#8], .set5C), ([0xCB#8, 0xEA#8], .set5D), ([0xCB#8, 0xEB#8], .set5E),
    ([0xCB#8, 0xEC#8], .set5H), ([0xCB#8, 0xED#8], .set5L), ([0xCB#8, 0xEE#8], .set5IndHL),
    ([0xCB#8, 0xEF#8], .set5A)] := by
  decide

theorem test_cb_map_row_F : DecodeTo [
    ([0xCB#8, 0xF0#8], .set6B), ([0xCB#8, 0xF1#8], .set6C), ([0xCB#8, 0xF2#8], .set6D),
    ([0xCB#8, 0xF3#8], .set6E), ([0xCB#8, 0xF4#8], .set6H), ([0xCB#8, 0xF5#8], .set6L),
    ([0xCB#8, 0xF6#8], .set6IndHL), ([0xCB#8, 0xF7#8], .set6A), ([0xCB#8, 0xF8#8], .set7B),
    ([0xCB#8, 0xF9#8], .set7C), ([0xCB#8, 0xFA#8], .set7D), ([0xCB#8, 0xFB#8], .set7E),
    ([0xCB#8, 0xFC#8], .set7H), ([0xCB#8, 0xFD#8], .set7L), ([0xCB#8, 0xFE#8], .set7IndHL),
    ([0xCB#8, 0xFF#8], .set7A)] := by
  decide

/-! ## Words of the opcode table, and the first step after reset -/

/-- A CB row is one 16-bit number with the prefix in bits 15..8; STOP's operand byte gets no bits. -/
theorem test_table_words :
    decodeTableWord 16 0xCB36 = some .swapIndHL ∧ decodeTableWord 8 0xCB = some .prefixCB ∧
      decodeTableWord 8 0x10 = some (.stop 0x00#8) ∧ decodeTableWord 8 0xC3 = some (.jp 0x0000#16) := by decide

/-- `create` with memory all 0: the first step is NOP at 0x0000 (L2, reset). -/
theorem test_first_step_after_reset : showsAF 0x00 0x00 0x0001 1 (after State.reset) := by decide

/-- L2, reset: 3E 12 at 0x0000 loads A. -/
theorem test_first_step_other_memory :
    showsAF 0x12 0x00 0x0002 2 (after (State.reset.placeBytes 0x0000 [0x3E#8, 0x12#8])) := by decide

/-- The placed word runs as the first instruction after reset; its immediate bytes are 0. -/
theorem test_withFetchWord_runs : showsAF 0x00 0x00 0x0000 4 (after (State.reset.withFetchWord 8 0xC3)) := by decide

theorem test_withFetchWord_runs_cb :
    showsAF 0x01 0x00 0x0002 2 (after (State.reset.withFetchWord 16 0xCBC7)) := by decide

/-! ## 8-bit arithmetic and logic (L1, L2) -/

/-- S1. -/
theorem test_addAB_half_carry :
    showsAF 0x10 0x20 0x0101 1 (after { start [0x80#8] with a := 0x0F#8, b := 0x01#8 }) := by decide

theorem test_addAA_same_register :
    showsAF 0x00 0x90 0x0101 1 (after { start [0x87#8] with a := 0x80#8 }) := by decide

theorem test_adcAImm8_carry_in :
    showsAF 0xFF 0x30 0x0102 2 (after { start [0xCE#8, 0xFF#8] with a := 0xFF#8, f := 0x10#8 }) := by decide

theorem test_subIndHL_borrow :
    showsAF 0xFE 0x50 0x0101 2 (after (withMem 0x40#8 { start [0x96#8] with a := 0x3E#8 })) := by decide

theorem test_sbcAA_carry_in :
    showsAF 0xFF 0x70 0x0101 1 (after { start [0x9F#8] with a := 0x42#8, f := 0x10#8 }) := by decide

theorem test_sbcAImm8_nibble_borrow :
    showsAF 0x00 0xE0 0x0102 2 (after { start [0xDE#8, 0x0F#8] with a := 0x10#8, f := 0x10#8 }) := by decide

theorem test_andB_clears_carry :
    showsAF 0x1A 0x20 0x0101 1 (after { start [0xA0#8] with a := 0x5A#8, b := 0x3F#8, f := 0x50#8 }) := by decide

theorem test_xorA_clears :
    showsAF 0x00 0x80 0x0101 1 (after { start [0xAF#8] with a := 0x5A#8, f := 0x70#8 }) := by decide

theorem test_orC : showsAF 0x5B 0x00 0x0101 1
    (after { start [0xB1#8] with a := 0x5A#8, c := 0x03#8, f := 0x70#8 }) := by decide

theorem test_cpB_keeps_A :
    showsAF 0x3C 0xC0 0x0101 1 (after { start [0xB8#8] with a := 0x3C#8, b := 0x3C#8 }) := by decide

theorem test_incIndHL_half_carry : showsMF 0x80 0x20 0x0101 3 (after (withMem 0x7F#8 (start [0x34#8]))) := by decide

theorem test_decIndHL_keeps_carry :
    showsMF 0xFF 0x70 0x0101 3 (after (withMem 0x00#8 { start [0x35#8] with f := 0x10#8 })) := by decide

/-- L1.3: ADD 0x99, 0x01. -/
theorem test_daa_after_add : showsAF 0x00 0x90 0x0101 1 (after { start [0x27#8] with a := 0x9A#8 }) := by decide

/-- L1.3: SUB 0x47, 0x28. -/
theorem test_daa_after_sub :
    showsAF 0x19 0x40 0x0101 1 (after { start [0x27#8] with a := 0x1F#8, f := 0x60#8 }) := by decide

/-! ## 16-bit arithmetic (L2) -/

theorem test_addHLDE_wraps_keeps_Z :
    let s := { start [0x19#8] with h := 0xFF#8, l := 0xFF#8, e := 0x01#8 }
    (after s).hl = 0x0000#16 ∧ (after s).f = 0x30#8 := by decide

theorem test_addHLBC_bit_11 :
    let s := { start [0x09#8] with h := 0x0F#8, l := 0xFF#8, c := 0x01#8, f := 0x80#8 }
    (after s).hl = 0x1000#16 ∧ (after s).f = 0xA0#8 := by decide

theorem test_decDE_wraps : (after (start [0x1B#8])).de = 0xFFFF#16 ∧ (after (start [0x1B#8])).f = 0x00#8 := by decide

/-! ## Rotates, shifts and bits (L2) -/

theorem test_rla_zero_result_clears_Z :
    showsAF 0x00 0x10 0x0101 1 (after { start [0x17#8] with a := 0x80#8 }) := by decide

theorem test_rra_carry_in :
    showsAF 0xC0 0x10 0x0101 1 (after { start [0x1F#8] with a := 0x81#8, f := 0x10#8 }) := by decide

theorem test_rlD_zero_result_sets_Z :
    (after { start [0xCB#8, 0x12#8] with d := 0x80#8 }).d = 0x00#8 ∧
      (after { start [0xCB#8, 0x12#8] with d := 0x80#8 }).f = 0x90#8 := by decide

theorem test_sraL_keeps_bit_7 :
    (after { start [0xCB#8, 0x2D#8] with l := 0x8A#8 }).l = 0xC5#8 ∧
      (after { start [0xCB#8, 0x2D#8] with l := 0x8A#8 }).f = 0x00#8 := by decide

theorem test_swapIndHL : showsMF 0x21 0x00 0x0102 4 (after (withMem 0x12#8 (start [0xCB#8, 0x36#8]))) := by decide

theorem test_srlIndHL : showsMF 0x7F 0x10 0x0102 4 (after (withMem 0xFF#8 (start [0xCB#8, 0x3E#8]))) := by decide

/-- S3. -/
theorem test_bit7A : showsAF 0x80 0x20 0x0102 2 (after { start [0xCB#8, 0x7F#8] with a := 0x80#8 }) := by decide

theorem test_bit3IndHL_keeps_carry :
    showsMF 0xF7 0xB0 0x0102 3 (after (withMem 0xF7#8 { start [0xCB#8, 0x5E#8] with f := 0x10#8 })) := by decide

theorem test_res7IndHL : showsMF 0x7F 0x00 0x0102 4 (after (withMem 0xFF#8 (start [0xCB#8, 0xBE#8]))) := by decide

theorem test_set0IndHL_keeps_flags :
    showsMF 0x01 0x80 0x0102 4 (after (withMem 0x00#8 { start [0xCB#8, 0xC6#8] with f := 0x80#8 })) := by decide

/-! ## Loads and stores (L2) -/

theorem test_ldH_indHL_overwrites_address : (after (withMem 0x99#8 (start [0x66#8]))).hl = 0x9900#16 := by decide

theorem test_storeHLInc_wraps :
    let s := { start [0x22#8] with a := 0x42#8, h := 0xFF#8, l := 0xFF#8 }
    (after s).hl = 0x0000#16 ∧ (after s).readByte 0xFFFF#16 = 0x42#8 ∧ (after s).result = .ok 2 := by decide

theorem test_loadHLDec :
    (after (withMem 0x84#8 (start [0x3A#8]))).a = 0x84#8 ∧
      (after (withMem 0x84#8 (start [0x3A#8]))).hl = 0xBFFF#16 := by
  decide

theorem test_ldh_store : (after { start [0xE0#8, 0x80#8] with a := 0x11#8 }).readByte 0xFF80#16 = 0x11#8 := by decide

theorem test_storeSP_wraps :
    let s := { start [0x08#8, 0xFF#8, 0xFF#8] with sp := 0x1234#16 }
    (after s).readByte 0xFFFF#16 = 0x34#8 ∧ (after s).readByte 0x0000#16 = 0x12#8 ∧ (after s).result = .ok 5 := by
  decide

theorem test_addSP_minus_one :
    let s := { start [0xE8#8, 0xFF#8] with sp := 0x0001#16 }
    (after s).sp = 0x0000#16 ∧ (after s).f = 0x30#8 ∧ (after s).result = .ok 4 := by decide

theorem test_ldHLSP_minus_two :
    let s := { start [0xF8#8, 0xFE#8] with sp := 0x0005#16 }
    (after s).hl = 0x0003#16 ∧ (after s).f = 0x30#8 ∧ (after s).sp = 0x0005#16 := by decide

/-! ## Control flow (L1, L2) -/

/-- S2. -/
theorem test_jp : showsAF 0x00 0x00 0x1234 4 (after (start [0xC3#8, 0x34#8, 0x12#8])) := by decide

theorem test_jr_minus_128 : showsAF 0x00 0x00 0x0082 3 (after (start [0x18#8, 0x80#8])) := by decide

theorem test_jrZ_not_taken : showsAF 0x00 0x00 0x0102 2 (after (start [0x28#8, 0x10#8])) := by decide

theorem test_call_wraps_SP :
    let t := after (start [0xCD#8, 0x00#8, 0x30#8])
    t.sp = 0xFFFE#16 ∧ t.readByte 0xFFFE#16 = 0x03#8 ∧ t.readByte 0xFFFF#16 = 0x01#8 ∧ t.pc = 0x3000#16 := by decide

theorem test_retZ_taken :
    let s := { (start [0xC8#8]).placeBytes 0xFFFC#16 [0x03#8, 0x01#8] with sp := 0xFFFC#16, f := 0x80#8 }
    showsAF 0x00 0x80 0x0103 5 (after s) ∧ (after s).sp = 0xFFFE#16 := by decide

theorem test_rst38 :
    let t := after { start [0xFF#8] with sp := 0xFFFE#16 }
    t.pc = 0x0038#16 ∧ t.readByte 0xFFFC#16 = 0x01#8 ∧ t.result = .ok 4 := by decide

theorem test_popAF_drops_low_nibble :
    showsAF 0x01 0xF0 0x0101 3
      (after { (start [0xF1#8]).placeBytes 0xFFFC#16 [0xFF#8, 0x01#8] with sp := 0xFFFC#16 }) := by decide

theorem test_pushAF :
    let t := after { start [0xF5#8] with a := 0x12#8, f := 0x90#8 }
    t.sp = 0xFFFE#16 ∧ t.readByte 0xFFFE#16 = 0x90#8 ∧ t.readByte 0xFFFF#16 = 0x12#8 := by decide

/-! ## Miscellaneous (L2) -/

theorem test_stop_skips_its_operand : showsAF 0x00 0x00 0x0102 1 (after (start [0x10#8, 0xAB#8])) := by decide

theorem test_cpl : showsAF 0xCA 0xF0 0x0101 1 (after { start [0x2F#8] with a := 0x35#8, f := 0x90#8 }) := by decide

theorem test_ccf : showsAF 0x00 0x00 0x0101 1 (after { start [0x3F#8] with f := 0x70#8 }) := by decide

theorem test_illegal_nop_mode : showsAF 0x00 0x90 0x0101 1 (after { start [0xD3#8] with f := 0x90#8 }) := by decide

theorem test_illegal_fault_mode :
    let t := after { start [0xD3#8] with illegalMode := .fault }
    t.pc = 0x0101#16 ∧ t.result = .illegal 0xD3#8 := by decide

theorem test_illegal_hang_mode :
    let t := after { start [0xFD#8] with illegalMode := .hang }
    t.pc = 0x0100#16 ∧ t.result = .illegal 0xFD#8 := by decide

theorem test_illegal_byte_as_immediate : showsAF 0xD3 0x00 0x0102 2 (after (start [0x3E#8, 0xD3#8])) := by decide

/-- L2: the immediate of an instruction at 0xFFFF is fetched from 0x0000. -/
theorem test_immediate_wraps_PC :
    let s := { State.reset.placeBytes 0xFFFF#16 [0x3E#8, 0x77#8] with pc := 0xFFFF#16 }
    showsAF 0x77 0x00 0x0001 2 (after s) := by decide

/-- L2: the host writes AF = 0x1234. -/
theorem test_host_writes_AF :
    (hostWritePair .af 0x1234#16 State.reset).f = 0x30#8 ∧
      hostReadPair .af (hostWritePair .af 0x1234#16 State.reset) = 0x1230#16 := by decide

/-- R44: the host reads SP and PC after it wrote both; neither write touches the other. -/
theorem test_host_writes_SP_and_PC :
    let s := hostWritePC 0xFFFF#16 (hostWriteSP 0x8000#16 State.reset)
    hostReadSP s = 0x8000#16 ∧ hostReadPC s = 0xFFFF#16 := by decide

/-! ## The canonical form of memory -/

/-- Writing what an unlisted address reads as takes the cell out; two orders of writing give equal data. -/
theorem test_memory_canonical :
    Memory.write [(5, 0x01#8)] 5 0x00#8 = [] ∧
      Memory.write (Memory.write [] 9 0x02#8) 5 0x01#8 = Memory.write (Memory.write [] 5 0x01#8) 9 0x02#8 ∧
      Memory.wf [(9, 0x02#8), (5, 0x01#8)] = false ∧ Memory.wf [(5, 0x00#8)] = false ∧
      Memory.wf [(65536, 0x01#8)] = false := by decide

/-! ## Witnesses: the hypotheses of each statement can be met -/

/-- DecimalAdjustIsDecimal, at 99 and 99, and at 0 and 99 (a borrow). -/
theorem witness_bcd_operands :
    (99 < 100 ∧ { State.reset with a := 0x99#8, b := 0x99#8 }.a = bcd 99 ∧
        { State.reset with a := 0x99#8, b := 0x99#8 }.b = bcd 99) ∧
      (0 < 100 ∧ { State.reset with a := 0x00#8, b := 0x99#8 }.a = bcd 0 ∧
        { State.reset with a := 0x00#8, b := 0x99#8 }.b = bcd 99) := by decide

/-- RotateRegisterResultFlagsFrame: H, whose pair addresses memory. -/
theorem witness_register_operand : Operand8.h ≠ Operand8.indHL := by decide

/-- LoadOperandResultFrame: one side may be (HL), and both may be one register. -/
theorem witness_load_operands :
    ¬(Operand8.indHL = .indHL ∧ Operand8.l = .indHL) ∧ ¬(Operand8.h = .indHL ∧ Operand8.indHL = .indHL) ∧
      ¬(Operand8.a = .indHL ∧ Operand8.a = .indHL) := by decide

/-- OnlyOperandWritten, in the statements that use it: an address other than HL, just below and just above. -/
theorem witness_addresses_beside_HL :
    (withMem 0x12#8 (start [])).hl ≠ 0xBFFF#16 ∧ (withMem 0x12#8 (start [])).hl ≠ 0xC001#16 := by decide

/-- RelativeJump-, AbsoluteJump- and ReturnTargetFrame, CallRestartPushTargetFrame, TakenCostsMore: every
condition holds somewhere and fails somewhere. -/
theorem witness_conditions :
    (condition .nz (start []) = true ∧ condition .nc (start []) = true ∧
      condition .z (start []) = false ∧ condition .c (start []) = false) ∧
    (condition .z { start [] with f := 0xF0#8 } = true ∧ condition .c { start [] with f := 0xF0#8 } = true ∧
      condition .nz { start [] with f := 0xF0#8 } = false ∧ condition .nc { start [] with f := 0xF0#8 } = false) := by
  decide

/-- InertInstructionsChangeNothing: HALT and STOP at PC. -/
theorem witness_inert_at_PC :
    (start [0x76#8]).readByte (start [0x76#8]).pc ∈ [0x00#8, 0x76#8, 0xF3#8, 0xFB#8] ∧
      (start [0x10#8]).readByte (start [0x10#8]).pc = 0x10#8 := by decide

/-- PrefixRunsTableEntry: the prefix at the top of memory, its second byte at address 0. -/
theorem witness_prefix_at_PC :
    let s := { State.reset.placeBytes 0xFFFF#16 [0xCB#8, 0x37#8] with pc := 0xFFFF#16 }
    s.readByte s.pc = 0xCB#8 ∧ s.readByte (s.pc + 1) = 0x37#8 := by decide

/-- IllegalOpcodeOutcome and OnlyIllegalOpcodesRaise: an illegal opcode at PC, in each mode. -/
theorem witness_illegal_at_PC :
    (Instr.illegalD3, 0xD3#8) ∈ illegalRows ∧ (Instr.illegalFD, 0xFD#8) ∈ illegalRows ∧
    (∀ m ∈ [IllegalOpcodeMode.fault, .nop, .hang],
      { start [0xFD#8] with illegalMode := m }.readByte 0x0100#16 = 0xFD#8) ∧
    (start [0xFD#8]).readByte (start [0xFD#8]).pc ∈ illegalOpcodes ∧
    { start [0xFD#8] with illegalMode := .hang }.illegalMode ≠ .nop ∧
    (start [0x00#8]).readByte (start [0x00#8]).pc ∉ illegalOpcodes := by decide

/-- StepRunsDecodedInstruction: one, two and three bytes, and a CB row. -/
theorem witness_bytes_at_PC_decode :
    decode (bytesAtPC (start [0x76#8])) = .ok (.halt, [0x00#8, 0x00#8]) ∧
      decode (bytesAtPC (start [0x3E#8, 0x12#8])) = .ok (.ldAImm8 0x12#8, [0x00#8]) ∧
      decode (bytesAtPC (start [0xC3#8, 0x34#8, 0x12#8])) = .ok (.jp 0x1234#16, []) ∧
      decode (bytesAtPC (start [0xCB#8, 0x37#8])) = .ok (.swapA, [0x00#8]) := by decide

/-- EncodeOfDecodedBytes: the opcodes beside the prefix. -/
theorem witness_not_prefix : 0xCA#8 ≠ 0xCB#8 ∧ 0xCC#8 ≠ 0xCB#8 ∧ 0xFF#8 ≠ 0xCB#8 := by decide

/-- DecodeOfEncodedInstruction and EveryByteSequenceDecodes. -/
theorem witness_well_formed :
    Instr.wellFormed (.ldIndA16SP 0xFFFF#16) = true ∧
      decode [0x08#8, 0xFF#8, 0xFF#8] = .ok (.ldIndA16SP 0xFFFF#16, []) := by decide

/-- The state of POP AF with 0xFF on the stack. -/
def popState : State := { (start [0xF1#8]).placeBytes 0xFFFC#16 [0xFF#8, 0x01#8] with sp := 0xFFFC#16 }

/-- StepKeepsTheInvariant: a state with listed memory, and its step. -/
theorem witness_invariant : popState.Inv ∧ step popState = .next (after popState) := ⟨by decide, rfl⟩

/-- LowNibbleOfFIsAlwaysZero, OnlyListedInstructionsStore, LaunchParameterOnlyGuidesIllegalOpcodes: exec
answers a next state, and POP AF stores nothing. -/
theorem witness_exec_next :
    exec .popAF popState = .next { after popState with pc := popState.pc } ∧
      storesToMemory .popAF = false ∧ ∀ row ∈ illegalRows, row.1 ≠ .popAF := ⟨rfl, rfl, by decide⟩

/-- OnlyListedInstructionsWriteSP: LD HL,SP+e8 reads SP and does not write it. -/
theorem witness_reads_SP :
    exec (.ldHLSPe8 0x80#8) State.reset =
        .next { State.reset with h := 0xFF#8, l := 0x80#8, result := .ok 3 } ∧
      writesSP (.ldHLSPe8 0x80#8) = false := ⟨rfl, rfl⟩

/-- HostWritesReadBack and HostFlagWriteChangesOneFlag: two names that differ. -/
theorem witness_names_differ :
    ByteRegister.a ≠ .f ∧ PairName.hl ≠ .af ∧ FlagName.z ≠ .c := by decide

/-- MemoryAccessesReadBack and the pushes: at the top of memory the second byte is at address 0. -/
theorem witness_word_wraps :
    (0xFFFF#16 : Word) + 1 = 0x0000#16 ∧ 0x0001#16 ∉ [(0xFFFF#16 : Word), 0xFFFF#16 + 1] := by decide

/-- CanonicalMemoriesReadingAlikeAreEqual: a memory in canonical form, which reads as itself. -/
theorem witness_canonical_memory :
    Memory.wf [(0, 0x01#8), (65535, 0xFF#8)] = true ∧
      ∀ x : Word, Memory.read [(0, 0x01#8), (65535, 0xFF#8)] x = Memory.read [(0, 0x01#8), (65535, 0xFF#8)] x :=
  ⟨by decide, fun _ => rfl⟩

/-- StoreIsSeenByTheNextFetch: HL at the next instruction, and a one-byte instruction to store there. -/
theorem witness_store_at_PC :
    { start [] with h := 0x01#8, l := 0x00#8 }.hl = { start [] with h := 0x01#8, l := 0x00#8 }.pc ∧
      instrLength 0x76#8 = 1 := by decide

/-- NextInstructionFollows: a two-byte instruction that wraps PC, and one that transfers no control. -/
theorem witness_falls_through :
    let s := { State.reset.placeBytes 0xFFFF#16 [0x3E#8, 0x77#8] with pc := 0xFFFF#16 }
    step s = .next (after s) ∧ transfersControl (fetchInstr s).1 = false := ⟨rfl, rfl⟩

/-- CycleCountsFollowTheTables: each of its three cases, and both figures of a conditional opcode. -/
theorem witness_cycle_cases :
    (start [0xCB#8, 0x46#8]).readByte 0x0100#16 = 0xCB#8 ∧
      ((0xD3#8 ∈ illegalOpcodes) ∧ (start [0xD3#8]).illegalMode = .nop) ∧
      (0xC4#8 ∉ illegalOpcodes ∧ condition (condOf (fieldY 0xC4#8 % 4)) (start [0xC4#8]) = true ∧
        condition (condOf (fieldY 0xC4#8 % 4)) { start [0xC4#8] with f := 0x80#8 } = false) := by decide

end Sys2Proof.Tests
end

section
/-! PROOFS of the family 10_state.md. The layers, in order: bytes of an instruction and the fetch; the flags
byte and the pair views; the host's port; what an operation keeps; then the statements. -/

namespace Sys2Proof

/-! ## The bytes of a decoded instruction (30_encoding.md R132) -/

/-- A property holds of every byte when it holds of the 256 literals. -/
theorem byte_cases {P : Byte → Prop} (literal : ∀ n < 256, P (BitVec.ofNat 8 n)) (b : Byte) : P b := by
  simpa using literal b.toNat b.isLt

/-- The table gives 0xCB the 2 bytes of a CB instruction; the row `prefixCB` alone is 1 byte (R508). -/
theorem length_encode_decodeBase (op lo hi : Byte) :
    (encode (decodeBase op lo hi)).length = if op = Config.cbPrefix then 1 else instrLength op := by
  induction op using byte_cases with
  | literal n hn => interval_cases n <;> rfl

theorem wellFormed_decodeBase (op lo hi : Byte) :
    (decodeBase op lo hi).wellFormed = (op != Config.cbPrefix) := by
  induction op using byte_cases with
  | literal n hn => interval_cases n <;> rfl

theorem length_encode_decodeCB (cb : Byte) : (encode (decodeCB cb)).length = 2 := by
  induction cb using byte_cases with
  | literal n hn => interval_cases n <;> rfl

theorem wellFormed_decodeCB (cb : Byte) : (decodeCB cb).wellFormed = true := by
  induction cb using byte_cases with
  | literal n hn => interval_cases n <;> rfl

theorem instrLength_cases (op : Byte) : instrLength op = 1 ∨ instrLength op = 2 ∨ instrLength op = 3 := by
  induction op using byte_cases with
  | literal n hn => interval_cases n <;> decide

end Sys2Proof

namespace Sys2Proof.Machine

open Sys2Proof.Claims

/-! ## The fetch (R125) -/

/-- A base instruction is the row of its opcode byte with some immediates, and PC is past those. -/
theorem fetchBase_cases (op : Byte) (s : State) :
    ∃ lo hi, fetchBase op s =
      (decodeBase op lo hi, { s with pc := s.pc + BitVec.ofNat 16 (instrLength op - 1) }) := by
  obtain h | h | h := instrLength_cases op
  · exact ⟨0, 0, by simp [fetchBase_one s h, h]⟩
  · exact ⟨s.readByte s.pc, 0, by simp [fetchBase_two s h, h]⟩
  · exact ⟨s.readByte s.pc, s.readByte (s.pc + 1), by simp [fetchBase_three s h, h, BitVec.add_assoc]⟩

/-- A fetch answers a whole instruction, never the row `prefixCB`, and moves PC past its bytes. -/
theorem fetchInstr_whole (s : State) :
    (fetchInstr s).1.wellFormed = true ∧
      (fetchInstr s).2 = { s with pc := s.pc + BitVec.ofNat 16 (encode (fetchInstr s).1).length } := by
  by_cases hop : s.readByte s.pc = Config.cbPrefix
  · rw [fetchInstr_prefix hop]
    exact ⟨wellFormed_decodeCB _, by simp [length_encode_decodeCB, BitVec.add_assoc]⟩
  · obtain ⟨lo, hi, hbase⟩ := fetchBase_cases (s.readByte s.pc) { s with pc := s.pc + 1 }
    rw [fetchInstr_base hop, hbase]
    refine ⟨by simpa [wellFormed_decodeBase] using hop, ?_⟩
    obtain h | h | h := instrLength_cases (s.readByte s.pc) <;>
      simp [length_encode_decodeBase, hop, h, BitVec.add_assoc]

/-! ## The flags byte and the pair views (10_state.md R33, R35) -/

theorem maskF_toNat (v : Byte) : (v &&& 0xF0#8).toNat = v.toNat / 16 * 16 := by
  induction v using byte_cases with
  | literal n hn => interval_cases n <;> rfl

theorem joinBytes_maskF (hi lo : Byte) : joinBytes hi (lo &&& 0xF0#8) = joinBytes hi lo &&& 0xFFF0#16 := by
  have hhi : hi &&& 0xFF#8 = hi := BitVec.and_allOnes
  calc joinBytes hi (lo &&& 0xF0#8)
      = (hi &&& 0xFF#8) ++ (lo &&& 0xF0#8) := by rw [hhi, joinBytes]
    _ = joinBytes hi lo &&& 0xFFF0#16 := BitVec.and_append.symm

@[simp] theorem State.writeF_readF (s : State) (v : Byte) : (s.writeF v).readF = v &&& 0xF0#8 := by
  simp [State.readF, BitVec.and_assoc]

@[simp] theorem State.setBC_bc (s : State) (v : Word) : (s.setBC v).bc = v := joinBytes_high_low v

@[simp] theorem State.setDE_de (s : State) (v : Word) : (s.setDE v).de = v := joinBytes_high_low v

@[simp] theorem State.setHL_hl (s : State) (v : Word) : (s.setHL v).hl = v := joinBytes_high_low v

@[simp] theorem State.setAF_af (s : State) (v : Word) : (s.setAF v).af = v &&& 0xFFF0#16 := by
  calc (s.setAF v).af
      = joinBytes (highByte v) (s.writeF (lowByte v)).readF := rfl
    _ = v &&& 0xFFF0#16 := by rw [State.writeF_readF, joinBytes_maskF, joinBytes_high_low]

/-! ## The host's port: a read after a write, and what a write leaves alone (R44, R45) -/

theorem hostReadByteRegister_hostWriteByteRegister (q r : ByteRegister) (v : Byte) (s : State) :
    hostReadByteRegister q (hostWriteByteRegister r v s) =
      if q = r then (if r = .f then v &&& 0xF0#8 else v) else hostReadByteRegister q s := by
  cases r
  case f => cases q <;> simp [hostReadByteRegister, hostWriteByteRegister]
  case a | b | c | d | e | h | l => cases q <;> rfl

theorem hostWriteByteRegister_frame (r : ByteRegister) (v : Byte) (s : State) :
    (hostWriteByteRegister r v s).sp = s.sp ∧ (hostWriteByteRegister r v s).pc = s.pc ∧
      (hostWriteByteRegister r v s).mem = s.mem ∧ (hostWriteByteRegister r v s).illegalMode = s.illegalMode ∧
      (hostWriteByteRegister r v s).result = s.result := by
  cases r <;> exact ⟨rfl, rfl, rfl, rfl, rfl⟩

theorem hostReadPair_hostWritePair (q p : PairName) (v : Word) (s : State) :
    hostReadPair q (hostWritePair p v s) =
      if q = p then (if p = .af then v &&& 0xFFF0#16 else v) else hostReadPair q s := by
  cases p <;> cases q <;> simp [hostReadPair, hostWritePair]

theorem hostWritePair_frame (p : PairName) (v : Word) (s : State) :
    (hostWritePair p v s).sp = s.sp ∧ (hostWritePair p v s).pc = s.pc ∧ (hostWritePair p v s).mem = s.mem ∧
      (hostWritePair p v s).illegalMode = s.illegalMode ∧ (hostWritePair p v s).result = s.result := by
  cases p <;> exact ⟨rfl, rfl, rfl, rfl, rfl⟩

theorem hostReadFlag_hostWriteFlag (y x : FlagName) (v : Bool) (s : State) :
    hostReadFlag y (hostWriteFlag x v s) = if y = x then v else hostReadFlag y s := by
  cases x <;> cases y <;> simp [hostReadFlag, hostWriteFlag]

theorem hostWriteFlag_frame (x : FlagName) (v : Bool) (s : State) :
    hostWriteFlag x v s = { s with f := (hostWriteFlag x v s).f } := by
  cases x <;> rfl

theorem hostWriteFlag_low (x : FlagName) (v : Bool) (s : State) :
    (hostWriteFlag x v s).f &&& 0x0F#8 = 0#8 := by
  cases x <;> exact packFlags_low ..

/-! ## What an operation keeps -/

/-- The operations of the SP row of 10_state.md section 7. -/
def Operation.writesSP (o : Operation) : Bool :=
  match o with
  | .ldImm16 .sp _ | .incPair .sp | .decPair .sp | .spFromHL | .addSP _ => true
  | .push _ | .pop _ | .call _ | .callIf _ _ | .ret | .retIf _ | .rst _ => true
  | _ => false

theorem writesSP_operationOf (i : Instr) : (operationOf i).writesSP = writesSP i := by
  cases i <;> rfl

/-- The operations that may leave PC elsewhere than where it was: the transfers of control, the illegal
opcodes in `hang` mode, and the row `prefixCB`, which fetches one byte more (R508, log entry 6). -/
def Operation.movesPC (o : Operation) : Bool :=
  match o with
  | .jr _ | .jrIf _ _ | .jp _ | .jpIf _ _ | .jpHL => true
  | .call _ | .callIf _ _ | .ret | .retIf _ | .rst _ | .illegal _ | .prefixCB => true
  | _ => false

theorem movesPC_operationOf (i : Instr) :
    (operationOf i).movesPC = (transfersControl i || !i.wellFormed) := by
  cases i <;> rfl

/-- What an operation that takes `s` to `t` keeps: the two halves of the invariant, and SP and PC where it
is not listed as writing them. -/
structure Operation.Keeps (o : Operation) (s t : State) : Prop where
  flags : t.f = s.f ∨ t.f &&& 0x0F#8 = 0#8
  memory : Memory.wf s.mem = true → Memory.wf t.mem = true
  sp : o.writesSP = false → t.sp = s.sp
  pc : o.movesPC = false → t.pc = s.pc

/-- The row a byte selects in the CB table (R122) is an operation other than `prefixCB`, and writes no SP. -/
theorem performCB_eq_perform (cb : Byte) (s : State) :
    ∃ o : Operation, performCB cb s = perform o s ∧ o ≠ .prefixCB ∧ o.writesSP = false := by
  rw [performCB_eq]
  split <;> exact ⟨_, rfl, nofun, rfl⟩

theorem writeStackPair_flags (q : StackPair) (v : Word) (s : State) :
    (writeStackPair q v s).f = s.f ∨ (writeStackPair q v s).f &&& 0x0F#8 = 0#8 := by
  cases q
  case af => exact .inr (maskF_low _)
  case bc | de | hl => exact .inl rfl

theorem perform_keeps_of_ne_prefixCB {o : Operation} {s t : State} (ho : o ≠ .prefixCB)
    (h : perform o s = .next t) : o.Keeps s t := by
  cases o
  case prefixCB => exact absurd rfl ho
  case illegal =>
    rw [perform, takeIllegalOpcode_next] at h
    cases h
    exact ⟨.inl rfl, id, fun _ => rfl, nofun⟩
  case inert | loadHigh | loadHighC | loadAbs =>
    cases h
    exact ⟨.inl rfl, id, fun _ => rfl, fun _ => rfl⟩
  case loadInd =>
    rw [perform, loadIndirect_eq] at h
    cases h
    exact ⟨.inl rfl, id, fun _ => rfl, fun _ => rfl⟩
  -- Flags written, no memory.
  case alu | aluImm | daa | addHL | rotA | bit | hlFromSP | cpl | scf | ccf =>
    cases h
    exact ⟨.inr (packFlags_low ..), id, fun _ => rfl, fun _ => rfl⟩
  -- An operand written, which may be (HL), with flags and without.
  case inc | dec | rot =>
    cases h
    exact ⟨.inr (packFlags_low ..), writeOperand_wf _ _, fun _ => writeOperand_sp .., fun _ => writeOperand_pc ..⟩
  case res | set | ld | ldImm8 =>
    cases h
    exact ⟨.inl (writeOperand_f ..), writeOperand_wf _ _, fun _ => writeOperand_sp .., fun _ => writeOperand_pc ..⟩
  -- Memory written at an address of their own.
  case storeHigh | storeHighC | storeAbs =>
    cases h
    exact ⟨.inl rfl, Memory.wf_write _ _, fun _ => rfl, fun _ => rfl⟩
  case storeInd =>
    rw [perform, storeIndirect_eq] at h
    cases h
    exact ⟨.inl rfl, Memory.wf_write _ _, fun _ => rfl, fun _ => rfl⟩
  case storeSP =>
    cases h
    exact ⟨.inl rfl, writeWord_wf _ _, fun _ => rfl, fun _ => rfl⟩
  -- SP written, or a pair that may be SP.
  case incPair p | decPair p | ldImm16 p _ =>
    cases h
    refine ⟨.inl (writePair_f ..), by simp, ?_, fun _ => writePair_pc ..⟩
    cases p
    case sp => nofun
    case bc | de | hl => exact fun _ => rfl
  case spFromHL =>
    cases h
    exact ⟨.inl rfl, id, nofun, fun _ => rfl⟩
  case addSP =>
    cases h
    exact ⟨.inr (packFlags_low ..), id, nofun, fun _ => rfl⟩
  case push =>
    cases h
    exact ⟨.inl rfl, push16_wf _, nofun, fun _ => rfl⟩
  case pop =>
    cases h
    exact ⟨writeStackPair_flags .., (writeStackPair_mem ..).symm ▸ id, nofun, fun _ => writeStackPair_pc ..⟩
  -- PC written, and by calls and returns SP.
  case jr | jp | jpHL =>
    cases h
    exact ⟨.inl rfl, id, fun _ => rfl, nofun⟩
  case jrIf =>
    rw [perform, jumpRelativeIf_eq] at h
    cases h
    exact ⟨.inl rfl, id, fun _ => rfl, nofun⟩
  case jpIf =>
    rw [perform, jumpIf_eq] at h
    cases h
    exact ⟨.inl rfl, id, fun _ => rfl, nofun⟩
  case call | rst =>
    cases h
    exact ⟨.inl rfl, push16_wf _, nofun, nofun⟩
  case callIf =>
    rw [perform, callIf_eq] at h
    split at h <;> cases h
    · exact ⟨.inl rfl, push16_wf _, nofun, nofun⟩
    · exact ⟨.inl rfl, id, nofun, nofun⟩
  case ret =>
    cases h
    exact ⟨.inl rfl, id, nofun, nofun⟩
  case retIf =>
    rw [perform, returnIf_eq] at h
    split at h <;> cases h <;> exact ⟨.inl rfl, id, nofun, nofun⟩

/-- The row `prefixCB` keeps what the row it selects keeps, but PC, which it moves past one byte more. -/
theorem perform_keeps {o : Operation} {s t : State} (h : perform o s = .next t) : o.Keeps s t := by
  by_cases ho : o = .prefixCB
  · subst ho
    obtain ⟨row, hrow, hne, hsp⟩ := performCB_eq_perform (s.readByte s.pc) { s with pc := s.pc + 1 }
    have keeps := perform_keeps_of_ne_prefixCB hne (hrow.symm.trans h)
    exact ⟨keeps.flags, keeps.memory, fun _ => keeps.sp hsp, nofun⟩
  · exact perform_keeps_of_ne_prefixCB ho h

theorem exec_keeps {i : Instr} {s t : State} (h : exec i s = .next t) : (operationOf i).Keeps s t :=
  perform_keeps ((exec_eq_perform i s).symm.trans h)

/-- A step keeps what the fetched instruction keeps of the state with PC past its bytes. -/
theorem step_keeps {s t : State} (h : step s = .next t) :
    (operationOf (fetchInstr s).1).Keeps
      { s with pc := s.pc + BitVec.ofNat 16 (encode (fetchInstr s).1).length } t := by
  rw [← (fetchInstr_whole s).2]
  exact exec_keeps h

/-! ## The statements -/

/-- Settles O42: canonical memory is kept by every operation; F keeps its byte or gets a low nibble of 0. -/
theorem stepKeepsTheInvariant : Obligations.StepKeepsTheInvariant := by
  intro s t ⟨hmem, hlow⟩ hstep
  have keeps := step_keeps hstep
  refine ⟨keeps.memory hmem, ?_⟩
  obtain hf | hf := keeps.flags
  · rw [hf]
    exact hlow
  · exact hf

/-- Settles O43: a pair is its bytes joined, and AF's low byte is masked on both ways. -/
theorem pairViewsAreBijective : Obligations.PairViewsAreBijective := by
  intro s v x y
  refine ⟨⟨joinBytes_toNat .., joinBytes_toNat .., joinBytes_toNat .., ?_⟩, ⟨rfl, s.setBC_bc v, ?_⟩,
    ⟨rfl, s.setDE_de v, ?_⟩, ⟨rfl, s.setHL_hl v, ?_⟩, rfl, maskF_toNat _, s.setAF_af v, rfl, ?_⟩
  · rw [State.af, joinBytes_toNat, State.readF, maskF_toNat]
  · simp [State.setBC]
  · simp [State.setDE]
  · simp [State.setHL]
  · simp [State.setAF]

/-- Settles O44: reads mask F, and every write path masks or packs it. -/
theorem lowNibbleOfFIsAlwaysZero : Obligations.LowNibbleOfFIsAlwaysZero :=
  ⟨fun s => maskF_low s.f, fun _ _ _ h => (exec_keeps h).flags, fun _ _ => rfl,
    fun v _ => maskF_low (lowByte v), hostWriteFlag_low⟩

/-- Settles O45, from the port's read-after-write equations and frames. -/
theorem hostWritesReadBack : Obligations.HostWritesReadBack := by
  intro s
  refine ⟨fun r v => ⟨?_, fun q hq => ?_, hostWriteByteRegister_frame r v s⟩,
    fun p v => ⟨?_, fun q hq => ?_, hostWritePair_frame p v s⟩,
    fun x y v => ⟨s.readByte_writeByte x y v, rfl⟩, fun v => ⟨rfl, rfl, rfl, rfl, rfl, rfl, rfl⟩⟩
  · rw [hostReadByteRegister_hostWriteByteRegister, if_pos rfl]
  · rw [hostReadByteRegister_hostWriteByteRegister, if_neg hq]
  · rw [hostReadPair_hostWritePair, if_pos rfl]
  · rw [hostReadPair_hostWritePair, if_neg hq]

/-- Settles O46, from the read-after-write equation of the flags. -/
theorem hostFlagWriteChangesOneFlag : Obligations.HostFlagWriteChangesOneFlag := by
  intro x v s
  refine ⟨?_, fun y hy => ?_, hostWriteFlag_frame x v s⟩
  · rw [hostReadFlag_hostWriteFlag, if_pos rfl]
  · rw [hostReadFlag_hostWriteFlag, if_neg hy]

/-- Settles O51: the fetch moves PC past the instruction, which is whole, and the operation leaves it there. -/
theorem nextInstructionFollows : Obligations.NextInstructionFollows := by
  intro s t hstep htransfer
  have hmoves : (operationOf (fetchInstr s).1).movesPC = false := by
    rw [movesPC_operationOf, htransfer, (fetchInstr_whole s).1]
    rfl
  exact (step_keeps hstep).pc hmoves

/-- Settles O54: the operation of an unlisted instruction is unlisted, and leaves SP. -/
theorem onlyListedInstructionsWriteSP : Obligations.OnlyListedInstructionsWriteSP := by
  intro i s t h hsp
  exact (exec_keeps h).sp ((writesSP_operationOf i).trans hsp)

theorem create_hasFlags (mode : IllegalOpcodeMode) (mem0 : Memory) :
    HasFlags (State.create mode mem0) false false false false := by
  have hf : (State.create mode mem0).f = 0#8 := rfl
  simp [HasFlags, State.flagZ, State.flagN, State.flagH, State.flagC, hf]

theorem create_pairs (mode : IllegalOpcodeMode) (mem0 : Memory) :
    (State.create mode mem0).af = 0 ∧ (State.create mode mem0).bc = 0 ∧
      (State.create mode mem0).de = 0 ∧ (State.create mode mem0).hl = 0 := by
  simp [State.af, State.bc, State.de, State.hl, State.readF, State.create, joinBytes]

/-- Settles O40: the registers are zero by definition, and the pairs and flags are made of zero bytes. -/
theorem createZeroesRegistersKeepsMemory : Obligations.CreateZeroesRegistersKeepsMemory := by
  intro mode mem0
  obtain ⟨haf, hbc, hde, hhl⟩ := create_pairs mode mem0
  exact ⟨rfl, rfl, rfl, rfl, rfl, rfl, rfl, rfl, rfl, rfl, haf, hbc, hde, hhl, create_hasFlags mode mem0, rfl, rfl⟩

/-- Settles O41: the empty list of cells is canonical and lists no address. -/
theorem resetMeetsTheInvariant : Obligations.ResetMeetsTheInvariant :=
  ⟨⟨rfl, rfl⟩, rfl, rfl, fun _ => rfl⟩

end Sys2Proof.Machine
end

section
/-! PROOFS of the family 20_memory.md. The layers, in order: a word in memory; the memory that holds a given
function; what a canonical list of cells says about its addresses; the step after a store; what an operation
that does not store leaves; then the statements. -/

namespace Sys2Proof.Machine

open Sys2Proof.Claims

/-! ## A word in memory (20_memory.md R75) -/

theorem State.readByte_writeWord (s : State) (x y v : Word) :
    (s.writeWord x v).readByte y =
      if y = x + 1 then highByte v else if y = x then lowByte v else s.readByte y := by
  rw [State.writeWord, State.readByte_writeByte, State.readByte_writeByte]

@[simp] theorem State.readByte_writeWord_low (s : State) (x v : Word) :
    (s.writeWord x v).readByte x = lowByte v := by
  rw [State.readByte_writeWord, if_neg (by simp), if_pos rfl]

@[simp] theorem State.readByte_writeWord_high (s : State) (x v : Word) :
    (s.writeWord x v).readByte (x + 1) = highByte v := by
  rw [State.readByte_writeWord, if_pos rfl]

theorem State.writeWord_keeps_others (s : State) (x v : Word) :
    MemoryKeptBut [x, x + 1] s (s.writeWord x v) := by
  intro y hy
  obtain ⟨hlow, hhigh⟩ : y ≠ x ∧ y ≠ x + 1 := by simpa using hy
  rw [State.readByte_writeWord, if_neg hhigh, if_neg hlow]

@[simp] theorem State.readWord_writeWord (s : State) (x v : Word) : (s.writeWord x v).readWord x = v := by
  rw [State.readWord, State.readByte_writeWord_low, State.readByte_writeWord_high, joinBytes_high_low]

/-! ## The memory that holds a function (R81, log entry 4) -/

/-- The memory with `f` written at the first `n` addresses, over nothing. -/
def Memory.ofFunction (f : Word → Byte) : Nat → Memory
  | 0 => []
  | n + 1 => Memory.write (Memory.ofFunction f n) (BitVec.ofNat 16 n) (f (BitVec.ofNat 16 n))

theorem Memory.wf_ofFunction (f : Word → Byte) (n : Nat) : Memory.wf (Memory.ofFunction f n) = true := by
  induction n with
  | zero => rfl
  | succ n ih => exact Memory.wf_write _ _ ih

theorem Memory.read_ofFunction (f : Word → Byte) {n : Nat} {x : Word} (hx : x.toNat < n) :
    Memory.read (Memory.ofFunction f n) x = f x := by
  induction n with
  | zero => exact absurd hx (Nat.not_lt_zero _)
  | succ n ih =>
    rw [Memory.ofFunction, Memory.read_write]
    split
    · next hlast => rw [hlast]
    · next hother =>
      have hne : x.toNat ≠ n := by
        rintro rfl
        exact hother (by simp)
      exact ih (by omega)

/-! ## The addresses of a canonical list of cells (log entry 4) -/

theorem Memory.wfFrom_cons {lo : Nat} {cell : Host.Cell} {rest : Memory} :
    Memory.wfFrom lo (cell :: rest) = true ↔
      lo ≤ cell.1 ∧ cell.1 < Config.memSize ∧ cell.2 ≠ Config.unlistedByte ∧
        Memory.wfFrom (cell.1 + 1) rest = true := by
  simp [Memory.wfFrom, and_assoc]

@[simp] theorem Memory.lookup_head (cell : Host.Cell) (rest : Memory) :
    Memory.lookup (cell :: rest) cell.1 = cell.2 := if_pos rfl

theorem Memory.lookup_eq_unlisted_of_lt {m : Memory} {lo k : Nat} (hm : Memory.wfFrom lo m = true)
    (hk : k < lo) : Memory.lookup m k = Config.unlistedByte := by
  induction m generalizing lo with
  | nil => rfl
  | cons cell rest ih =>
    obtain ⟨hlo, -, -, hrest⟩ := Memory.wfFrom_cons.mp hm
    rw [Memory.lookup, if_neg (by omega)]
    exact ih hrest (by omega)

/-- The cells after the first hold what the list holds, at every address but that of the first. -/
theorem Memory.lookup_tail {lo : Nat} {cell : Host.Cell} {rest : Memory}
    (hm : Memory.wfFrom lo (cell :: rest) = true) (k : Nat) :
    Memory.lookup rest k =
      if cell.1 = k then Config.unlistedByte else Memory.lookup (cell :: rest) k := by
  obtain ⟨-, -, -, hrest⟩ := Memory.wfFrom_cons.mp hm
  split
  · next hk => exact Memory.lookup_eq_unlisted_of_lt hrest (by omega)
  · next hk => rw [Memory.lookup, if_neg hk]

/-- No canonical list that holds the first cell of another begins above it. -/
theorem Memory.head_le_of_lookup_eq {lo : Nat} {c d : Host.Cell} {r q : Memory}
    (hm : Memory.wfFrom lo (c :: r) = true) (hn : Memory.wfFrom lo (d :: q) = true)
    (hsame : Memory.lookup (c :: r) c.1 = Memory.lookup (d :: q) c.1) : d.1 ≤ c.1 := by
  obtain ⟨-, -, hlisted, -⟩ := Memory.wfFrom_cons.mp hm
  obtain ⟨-, hsize, hbyte, hq⟩ := Memory.wfFrom_cons.mp hn
  by_contra hlt
  have hd : Memory.wfFrom d.1 (d :: q) = true := Memory.wfFrom_cons.mpr ⟨le_rfl, hsize, hbyte, hq⟩
  rw [Memory.lookup_head, Memory.lookup_eq_unlisted_of_lt hd (by omega)] at hsame
  exact hlisted hsame

/-- Canonical lists that hold the same bytes in the address space are equal: their first cells are, each
being listed by the other list, and so are the rests. -/
theorem Memory.eq_of_lookup_eq {m n : Memory} {lo : Nat} (hm : Memory.wfFrom lo m = true)
    (hn : Memory.wfFrom lo n = true)
    (hsame : ∀ k < Config.memSize, Memory.lookup m k = Memory.lookup n k) : m = n := by
  induction m generalizing n lo with
  | nil =>
    cases n with
    | nil => rfl
    | cons d q =>
      obtain ⟨-, hsize, hlisted, -⟩ := Memory.wfFrom_cons.mp hn
      exact absurd ((hsame d.1 hsize).trans (Memory.lookup_head d q)).symm hlisted
  | cons c r ih =>
    obtain ⟨-, hcsize, hclisted, hr⟩ := Memory.wfFrom_cons.mp hm
    cases n with
    | nil => exact absurd ((Memory.lookup_head c r).symm.trans (hsame c.1 hcsize)) hclisted
    | cons d q =>
      obtain ⟨-, hdsize, -, hq⟩ := Memory.wfFrom_cons.mp hn
      have haddr : c.1 = d.1 :=
        le_antisymm (Memory.head_le_of_lookup_eq hn hm (hsame d.1 hdsize).symm)
          (Memory.head_le_of_lookup_eq hm hn (hsame c.1 hcsize))
      have hbyte : c.2 = d.2 := by
        simpa [← haddr, Memory.lookup] using hsame c.1 hcsize
      have hrests : ∀ k < Config.memSize, Memory.lookup r k = Memory.lookup q k := by
        intro k hk
        rw [Memory.lookup_tail hm, Memory.lookup_tail hn, haddr, hsame k hk]
      rw [Prod.ext haddr hbyte, ih hr (haddr ▸ hq) hrests]

/-! ## The step at a one-byte opcode (R125) -/

theorem step_of_instrLength_one {s : State} (hlen : instrLength (s.readByte s.pc) = 1) :
    step s = exec (decodeBase (s.readByte s.pc) 0 0) { s with pc := s.pc + 1 } := by
  have hbase : s.readByte s.pc ≠ Config.cbPrefix := by
    intro hcb
    rw [hcb] at hlen
    exact absurd hlen (by decide)
  rw [step, fetchInstr_base hbase, fetchBase_one _ hlen]

/-! ## What an operation that does not store leaves (10_state.md section 7, R77) -/

/-- The operations of the memory row of 10_state.md section 7. The row `prefixCB` counts as listed, since it
may run a listed one (log entry 6). -/
def Operation.storesToMemory (o : Operation) : Bool :=
  match o with
  | .inc r | .dec r | .rot _ r | .res _ r | .set _ r | .ld r _ | .ldImm8 r _ => decide (r = .indHL)
  | .storeInd _ | .storeHigh _ | .storeHighC | .storeAbs _ | .storeSP _ => true
  | .push _ | .call _ | .callIf _ _ | .rst _ | .prefixCB => true
  | _ => false

theorem storesToMemory_operationOf (i : Instr) : (operationOf i).storesToMemory = storesToMemory i := by
  cases i <;> rfl

theorem writeOperand_mem {r : Operand8} (hr : r ≠ .indHL) (v : Byte) (s : State) :
    (writeOperand r v s).mem = s.mem := by
  cases r
  case indHL => exact absurd rfl hr
  case a | b | c | d | e | h | l => rfl

theorem perform_mem {o : Operation} {s t : State} (ho : o.storesToMemory = false)
    (h : perform o s = .next t) : t.mem = s.mem := by
  cases o
  -- Listed operations, against the hypothesis.
  case storeInd | storeHigh | storeHighC | storeAbs | storeSP | push | call | callIf | rst | prefixCB =>
    cases ho
  -- An operand or a pair written; an operand that is (HL) is listed.
  case inc | dec | rot | res | set | ld | ldImm8 =>
    cases h
    exact writeOperand_mem (of_decide_eq_false ho) _ _
  case incPair | decPair | ldImm16 =>
    cases h
    exact writePair_mem ..
  case pop =>
    cases h
    exact writeStackPair_mem ..
  -- Registers, PC and the result alone, by the operation's equation.
  case illegal | loadInd | jrIf | jpIf =>
    simp only [perform, takeIllegalOpcode_next, loadIndirect_eq, jumpRelativeIf_eq, jumpIf_eq] at h
    cases h
    rfl
  case retIf =>
    rw [perform, returnIf_eq] at h
    split at h <;> cases h <;> rfl
  -- Registers, flags, SP and PC alone, by definition.
  case alu | aluImm | daa | addHL | rotA | bit | cpl | scf | ccf | inert | loadHigh | loadHighC | loadAbs |
      spFromHL | addSP | hlFromSP | jr | jp | jpHL | ret =>
    cases h
    rfl

/-! ## The statements -/

/-- Settles O47: a read after a write, of one byte and of a word's two. -/
theorem memoryAccessesReadBack : Obligations.MemoryAccessesReadBack := by
  intro s x
  exact ⟨fun v y => s.readByte_writeByte x y v, joinBytes_toNat .., fun v =>
    ⟨s.readWord_writeWord x v, s.readByte_writeWord_low x v, s.readByte_writeWord_high x v,
      s.writeWord_keeps_others x v⟩⟩

/-- Settles O48, by writing the function's bytes at all 65,536 addresses. -/
theorem everyLaunchMemoryIsHeld : Obligations.EveryLaunchMemoryIsHeld := by
  intro mem0
  exact ⟨Memory.ofFunction mem0 (2 ^ 16), Memory.wf_ofFunction mem0 _, fun x => Memory.read_ofFunction mem0 x.isLt⟩

/-- Settles O49: a read of every word is a lookup of every address below 65,536. -/
theorem canonicalMemoriesReadingAlikeAreEqual : Obligations.CanonicalMemoriesReadingAlikeAreEqual := by
  intro m n hm hn hread
  refine Memory.eq_of_lookup_eq hm hn fun k hk => ?_
  have haddr : (BitVec.ofNat 16 k).toNat = k := Nat.mod_eq_of_lt hk
  simpa only [Memory.read, haddr] using hread (BitVec.ofNat 16 k)

/-- Settles O50: the stored byte is the opcode that the next step fetches. -/
theorem storeIsSeenByTheNextFetch : Obligations.StoreIsSeenByTheNextFetch := by
  intro v s hhl
  have hexec : exec (.ldIndHLImm8 v) s = .next { s.writeByte s.hl v with result := .ok 3 } := rfl
  have hbyte : (s.writeByte s.hl v).readByte s.pc = v := by rw [hhl, State.readByte_writeByte_same]
  refine ⟨_, hexec, hbyte, fun hlen => ?_⟩
  rw [step_of_instrLength_one (hbyte.symm ▸ hlen)]
  exact congrArg (fun op => exec (decodeBase op 0 0) _) hbyte

/-- Settles O55: the operation of an unlisted instruction is unlisted, and leaves the memory. -/
theorem onlyListedInstructionsStore : Obligations.OnlyListedInstructionsStore := by
  intro i s t h hstores x
  have hmem : t.mem = s.mem :=
    perform_mem ((storesToMemory_operationOf i).trans hstores) ((exec_eq_perform i s).symm.trans h)
  rw [State.readByte, hmem, State.readByte]

end Sys2Proof.Machine
end

section
/-! PROOFS of the family 30_encoding.md. The layers, in order: the bytes a row encodes to; decoding, by the
length of the row; the bytes at PC and the fetch; then the statements. -/

namespace Sys2Proof

/-! ## The bytes a row encodes to (30_encoding.md R132) -/

/-- Row by row: the opcode byte, and its immediates as the row holds them, two of them as one word. -/
theorem encode_decodeBase_word (op lo hi : Byte) :
    encode (decodeBase op lo hi) =
      (if instrLength op = 3 then [op, lowByte (joinBytes hi lo), highByte (joinBytes hi lo)] else [op, lo]).take
        (if op = Config.cbPrefix then 1 else instrLength op) := by
  induction op using byte_cases with
  | literal n hn => interval_cases n <;> rfl

theorem encode_decodeBase {op : Byte} (lo hi : Byte) (hop : op ≠ Config.cbPrefix) :
    encode (decodeBase op lo hi) = [op, lo, hi].take (instrLength op) := by
  rw [encode_decodeBase_word, lowByte_joinBytes, highByte_joinBytes, if_neg hop]
  obtain h | h | h := instrLength_cases op <;> rw [h] <;> rfl

theorem encode_decodeCB (cb : Byte) : encode (decodeCB cb) = [Config.cbPrefix, cb] := by
  induction cb using byte_cases with
  | literal n hn => interval_cases n <;> rfl

/-! ## Decoding, by the length of the row (30_encoding.md R124, R125) -/

theorem decode_prefix (cb : Byte) (rest : List Byte) :
    decode (Config.cbPrefix :: cb :: rest) = .ok (decodeCB cb, rest) := rfl

section
variable {op : Byte} (hop : op ≠ Config.cbPrefix)
include hop

theorem decode_one (rest : List Byte) (h : instrLength op = 1) :
    decode (op :: rest) = .ok (decodeBase op 0 0, rest) := by
  simp [decode, hop, h]

theorem decode_two (n : Byte) (rest : List Byte) (h : instrLength op = 2) :
    decode (op :: n :: rest) = .ok (decodeBase op n 0, rest) := by
  simp [decode, hop, h]

theorem decode_three (lo hi : Byte) (rest : List Byte) (h : instrLength op = 3) :
    decode (op :: lo :: hi :: rest) = .ok (decodeBase op lo hi, rest) := by
  simp [decode, hop, h]

/-- Three bytes that begin with a base opcode: its row, with zeros for the immediates its length does not cover. -/
theorem decode_base_cases (lo hi : Byte) (rest : List Byte) :
    ∃ lo' hi', decode (op :: lo :: hi :: rest) =
        .ok (decodeBase op lo' hi', (op :: lo :: hi :: rest).drop (instrLength op)) ∧
      [op, lo', hi'].take (instrLength op) = [op, lo, hi].take (instrLength op) := by
  obtain h | h | h := instrLength_cases op
  · exact ⟨0, 0, by rw [decode_one hop _ h, h]; rfl, by rw [h]; rfl⟩
  · exact ⟨lo, 0, by rw [decode_two hop _ _ h, h]; rfl, by rw [h]; rfl⟩
  · exact ⟨lo, hi, by rw [decode_three hop _ _ _ h, h]; rfl, rfl⟩

end

/-- Three bytes always begin with a whole instruction; its bytes and those left over are the bytes given (R126). -/
theorem exists_decode_three_bytes (op lo hi : Byte) (rest : List Byte) :
    ∃ i left, decode (op :: lo :: hi :: rest) = .ok (i, left) ∧
      i.wellFormed = true ∧ encode i ++ left = op :: lo :: hi :: rest := by
  by_cases hop : op = Config.cbPrefix
  · subst hop
    exact ⟨_, _, decode_prefix lo (hi :: rest), wellFormed_decodeCB lo, by rw [encode_decodeCB]; rfl⟩
  · obtain ⟨lo', hi', hdecode, htake⟩ := decode_base_cases hop lo hi rest
    refine ⟨_, _, hdecode, by simpa [wellFormed_decodeBase] using hop, ?_⟩
    rw [encode_decodeBase _ _ hop, htake]
    obtain h | h | h := instrLength_cases op <;> rw [h] <;> rfl

/-- A row that holds its two immediate bytes as one word decodes from the low and the high byte of that word. -/
theorem decode_word {op : Byte} {row : Word → Instr} {rest : List Byte}
    (hrow : ∀ lo hi, decode (op :: lo :: hi :: rest) = .ok (row (joinBytes hi lo), rest)) (v : Word) :
    decode ([op, lowByte v, highByte v] ++ rest) = .ok (row v, rest) := by
  calc decode ([op, lowByte v, highByte v] ++ rest)
      = .ok (row (joinBytes (highByte v) (lowByte v)), rest) := hrow _ _
    _ = .ok (row v, rest) := by rw [joinBytes_high_low]

/-- A row with an immediate word has its two bytes joined again; every other row holds its immediate byte as it
stands, and decodes by the tables. -/
theorem decode_encode (i : Instr) (rest : List Byte) (hwf : i.wellFormed = true) :
    decode (encode i ++ rest) = .ok (i, rest) := by
  cases i
  case prefixCB => cases hwf
  case ldBCImm16 v | ldDEImm16 v | ldHLImm16 v | ldSPImm16 v | ldIndA16SP v | ldIndA16A v | ldAIndA16 v |
      jp v | jpNZ v | jpZ v | jpNC v | jpC v | call v | callNZ v | callZ v | callNC v | callC v =>
    exact decode_word (fun _ _ => rfl) v
  all_goals rfl

theorem decode_of_encodings {pairs : List (List Byte × Instr)}
    (hpairs : ∀ pair ∈ pairs, encode pair.2 = pair.1 ∧ pair.2.wellFormed = true) :
    ∀ pair ∈ pairs, decode pair.1 = .ok (pair.2, []) := by
  intro pair hmem
  obtain ⟨hbytes, hwf⟩ := hpairs pair hmem
  simpa [← hbytes] using decode_encode pair.2 [] hwf

end Sys2Proof

namespace Sys2Proof.Machine

open Sys2Proof.Claims

/-! ## The bytes at PC and the fetch (30_encoding.md R112, R113, R125) -/

/-- The decoder and the fetch read one instruction from the bytes at PC. -/
theorem decode_bytesAtPC (s : State) : ∃ rest, decode (bytesAtPC s) = .ok ((fetchInstr s).1, rest) := by
  have hnext : s.pc + 1 + 1 = s.pc + 2 := BitVec.add_assoc ..
  by_cases hop : s.readByte s.pc = Config.cbPrefix
  · rw [bytesAtPC, fetchInstr_prefix hop, hop]
    exact ⟨_, decode_prefix _ _⟩
  · rw [bytesAtPC, fetchInstr_base hop]
    obtain h | h | h := instrLength_cases (s.readByte s.pc)
    · rw [fetchBase_one _ h]
      exact ⟨_, decode_one hop _ h⟩
    · rw [fetchBase_two _ h]
      exact ⟨_, decode_two hop _ _ h⟩
    · rw [fetchBase_three _ h, ← hnext]
      exact ⟨_, decode_three hop _ _ _ h⟩

/-! ## The statements -/

/-- Settles O38, by the round trip of every row. -/
theorem decodeOfEncodedInstruction : Obligations.DecodeOfEncodedInstruction := decode_encode

/-- Settles O37, from the rows of the base table and of the CB table. -/
theorem encodeOfDecodedBytes : Obligations.EncodeOfDecodedBytes :=
  ⟨fun _ lo hi hop => encode_decodeBase lo hi hop, encode_decodeCB⟩

/-- Settles O39: decoding is a function, so it answers no second instruction. -/
theorem everyByteSequenceDecodes : Obligations.EveryByteSequenceDecodes := by
  intro op lo hi rest
  obtain ⟨i, left, hdecode, hwf, hbytes⟩ := exists_decode_three_bytes op lo hi rest
  refine ⟨i, left, hdecode, hwf, hbytes, fun j left' _ hj => ?_⟩
  cases hdecode.symm.trans hj
  rfl

/-- Settles O34, by the equation of the two fetches. -/
theorem fetchAdvancesPC : Obligations.FetchAdvancesPC := by
  intro s
  refine ⟨rfl, ?_, ?_⟩
  · rw [fetchWord_eq, joinBytes_toNat]
    omega
  · rw [fetchWord_eq, BitVec.add_assoc]
    rfl

/-- Settles O35: the decoded instruction is the fetched one, which a step runs with PC past its bytes. -/
theorem stepRunsDecodedInstruction : Obligations.StepRunsDecodedInstruction := by
  intro s i rest hdecode
  obtain ⟨rest', hfetch⟩ := decode_bytesAtPC s
  cases hfetch.symm.trans hdecode
  obtain ⟨hwf, hpc⟩ := fetchInstr_whole s
  exact ⟨hwf, by rw [step, hpc]⟩

/-- Settles O36: each word is the encoding of its row. -/
theorem mapWordsDecode : Obligations.MapWordsDecode := decode_of_encodings (by decide)

end Sys2Proof.Machine
end

section
/-! PROOFS of the family 41_alu8.md. The layers, in order: what the rows encode to and run; the flags a state
holds; the frame of a written operand; the values of the byte arithmetic; what an ALU operation leaves; DAA; decimal
numbers; then the statements. -/

namespace Sys2Proof.Machine

open Sys2Proof.Claims

/-! ## The rows: their encodings and what they run (30_encoding.md R108, R118, R120, R121) -/

/-- R108: the code of an ALU operation. -/
def aluCode (op : AluOp) : Nat :=
  match op with
  | .add => 0
  | .adc => 1
  | .sub => 2
  | .sbc => 3
  | .and => 4
  | .xor => 5
  | .or => 6
  | .cp => 7

theorem encode_rowAlu (op : AluOp) (r : Operand8) :
    encode (rowAlu op r) = [byteOf (0x80 + 8 * aluCode op + operandCode r)] := by
  cases op <;> cases r <;> rfl

theorem encode_rowAluImm (op : AluOp) (d8 : Byte) :
    encode (rowAluImm op d8) = [byteOf (0xC6 + 8 * aluCode op), d8] := by
  cases op <;> rfl

theorem encode_rowInc (r : Operand8) : encode (rowInc r) = [byteOf (0x04 + 8 * operandCode r)] := by
  cases r <;> rfl

theorem encode_rowDec (r : Operand8) : encode (rowDec r) = [byteOf (0x05 + 8 * operandCode r)] := by
  cases r <;> rfl

theorem cost_eq_costBy (r : Operand8) (reg mem : Nat) : cost r reg mem = costBy r reg mem := by
  cases r <;> rfl

theorem exec_rowAlu (op : AluOp) (r : Operand8) (s : State) :
    exec (rowAlu op r) s = finish (cost r 1 2) (applyAlu op (readOperand r s) s) := by
  rw [cost_eq_costBy]
  cases op <;> cases r <;> rfl

theorem exec_rowAluImm (op : AluOp) (d8 : Byte) (s : State) :
    exec (rowAluImm op d8) s = finish 2 (applyAlu op d8 s) := by
  cases op <;> rfl

theorem exec_rowInc (r : Operand8) (s : State) : exec (rowInc r) s = incOperand r s := by
  cases r <;> rfl

theorem exec_rowDec (r : Operand8) (s : State) : exec (rowDec r) s = decOperand r s := by
  cases r <;> rfl

/-- The nine rows of an ALU operation run it on what each reads. -/
theorem aluRows_of_applyAlu {op : AluOp} {s : State} {P : Instr → Byte → Nat → Prop}
    (run : ∀ i v n, exec i s = finish n (applyAlu op v s) → P i v n) :
    AluRows op (0x80 + 8 * aluCode op) (0xC6 + 8 * aluCode op) s P :=
  ⟨fun r => ⟨encode_rowAlu op r, run _ _ _ (exec_rowAlu op r s)⟩,
    fun d8 => ⟨encode_rowAluImm op d8, run _ _ _ (exec_rowAluImm op d8 s)⟩⟩

/-! ## The flags a state holds (10_state.md R34, R35) -/

theorem hasFlags_of_f {t : State} {z n h c : Bool} (hf : t.f = packFlags z n h c) : HasFlags t z n h c := by
  refine ⟨?_, ?_, ?_, ?_, by rw [hf, packFlags_low]⟩
  · rw [State.flagZ, hf, packFlags_z]
  · rw [State.flagN, hf, packFlags_n]
  · rw [State.flagH, hf, packFlags_h]
  · rw [State.flagC, hf, packFlags_c]

/-! ## The frame of a written operand (30_encoding.md R103) -/

/-- The operand an instruction wrote holds the byte written, whatever the instruction leaves in F. -/
theorem operandAfter_writeOperand (r : Operand8) (v f : Byte) (res : StepResult) (s : State) :
    operandAfter r s { writeOperand r v s with f := f, result := res } = v := by
  cases r
  case indHL => exact s.readByte_writeByte_same s.hl v
  case a | b | c | d | e | h | l => rfl

theorem readOperand_with_f_result {q : Operand8} (f : Byte) (res : StepResult) (s : State) :
    readOperand q { s with f := f, result := res } = readOperand q s := by
  cases q <;> rfl

theorem onlyOperandWritten_writeOperand (r : Operand8) (v f : Byte) (res : StepResult) (s : State) :
    OnlyOperandWritten r s { writeOperand r v s with f := f, result := res } := by
  refine ⟨fun q hne hq => ?_, writeOperand_sp .., writeOperand_pc .., writeOperand_illegalMode .., fun x hx => ?_⟩
  · rw [readOperand_with_f_result, readOperand_writeOperand_other v s hq hne]
  · calc State.readByte { writeOperand r v s with f := f, result := res } x
        = (writeOperand r v s).readByte x := rfl
      _ = s.readByte x := by rw [readByte_writeOperand, if_neg fun ⟨hr, heq⟩ => hx hr heq]

/-! ## The values of the byte arithmetic (41_alu8.md R200, R201, R226 to R229) -/

theorem add8_toNat (a b : Byte) (cin : Bool) :
    (add8 a b cin).1.toNat = (a.toNat + b.toNat + cin.toNat) % 256 := BitVec.toNat_ofNat ..

/-- The signed difference of R201, modulo 256, without negative numbers. -/
theorem difference_emod (a b : Byte) (cin : Bool) :
    ((a.toNat : Int) - b.toNat - cin.toNat) % 256 = ((a.toNat + 512 - b.toNat - cin.toNat) % 256 : Nat) := by
  have hb := b.isLt
  have hc := cin.toNat_le
  omega

theorem sub8_toNat (a b : Byte) (cin : Bool) :
    (sub8 a b cin).1.toNat = (a.toNat + 512 - b.toNat - cin.toNat) % 256 := by
  calc (sub8 a b cin).1.toNat
      = (((a.toNat : Int) - b.toNat - cin.toNat) % 256).toNat := BitVec.toNat_ofInt ..
    _ = (a.toNat + 512 - b.toNat - cin.toNat) % 256 := by rw [difference_emod, Int.toNat_natCast]

theorem sub8_z (a b : Byte) (cin : Bool) :
    (sub8 a b cin).2.z = decide ((a.toNat + 512 - b.toNat - cin.toNat) % 256 = 0) := by
  calc (sub8 a b cin).2.z
      = decide (((a.toNat : Int) - b.toNat - cin.toNat) % 256 = 0) := rfl
    _ = decide ((a.toNat + 512 - b.toNat - cin.toNat) % 256 = 0) := by
      rw [difference_emod]
      exact decide_eq_decide.mpr Int.natCast_eq_zero

theorem inc8_toNat (old : Byte) (carry : Bool) : (inc8 old carry).1.toNat = (old.toNat + 1) % 256 :=
  BitVec.toNat_add ..

theorem inc8_z (old : Byte) (carry : Bool) : (inc8 old carry).2.z = decide ((old.toNat + 1) % 256 = 0) := by
  rw [← inc8_toNat old carry]
  exact decide_eq_decide.mpr BitVec.toNat_inj.symm

theorem dec8_toNat (old : Byte) (carry : Bool) : (dec8 old carry).1.toNat = (old.toNat + 255) % 256 := by
  calc (dec8 old carry).1.toNat
      = (255 + old.toNat) % 256 := BitVec.toNat_sub ..
    _ = (old.toNat + 255) % 256 := by rw [Nat.add_comm]

theorem dec8_z (old : Byte) (carry : Bool) : (dec8 old carry).2.z = decide ((old.toNat + 255) % 256 = 0) := by
  rw [← dec8_toNat old carry]
  exact decide_eq_decide.mpr BitVec.toNat_inj.symm

/-! ## What an ALU operation leaves (R202 to R225) -/

section
variable {i : Instr} {s : State} {op : AluOp} {v : Byte} {cycles : Nat}
  (hexec : exec i s = finish cycles (applyAlu op v s))
include hexec

theorem addsToA_of_add8 {cin : Bool} (hop : alu8 op s.a v s.flagC = add8 s.a v cin) :
    AddsToA i s v.toNat cin.toNat cycles := by
  rw [applyAlu, hop] at hexec
  exact ⟨_, hexec, add8_toNat .., hasFlags_of_f rfl, rfl, rfl⟩

/-- The flags of SUB and SBC, with the difference in A; and of CP, with A as it was. -/
theorem subtractsFromA_of_sub8 {cin keepsA : Bool}
    (hop : alu8 op s.a v s.flagC = (if keepsA then s.a else (sub8 s.a v cin).1, (sub8 s.a v cin).2)) :
    SubtractsFromA i s v.toNat cin.toNat cycles keepsA := by
  rw [applyAlu, hop] at hexec
  refine ⟨_, hexec, ?_, hasFlags_of_f ?_, rfl, rfl⟩
  · rw [← sub8_toNat, ← apply_ite BitVec.toNat]
    rfl
  · rw [← sub8_z]
    rfl

theorem combinesWithA_of_logic8 {r : Byte} {bitOp : Bool → Bool → Bool} {h : Bool}
    (hop : alu8 op s.a v s.flagC = logic8 r h)
    (hbits : ∀ k, r.getLsbD k = bitOp (s.a.getLsbD k) (v.getLsbD k)) :
    CombinesWithA i s v bitOp h cycles := by
  rw [applyAlu, hop] at hexec
  exact ⟨_, hexec, fun k _ => hbits k, hasFlags_of_f rfl, rfl, rfl⟩

end

/-! ## DAA (R230) -/

/-- The condition of R230 under which DAA adjusts the low digit. -/
def daaLow (a : Byte) (n h : Bool) : Bool := h || (!n && decide (a.toNat % 16 > 0x9))

/-- The condition of R230 under which DAA adjusts the high digit. -/
def daaHigh (a : Byte) (n c : Bool) : Bool := c || (!n && decide (a.toNat > 0x99))

/-- The amount by which DAA adjusts the digits of the accumulator. -/
def digitAdjust (low high : Bool) : Nat := (if low then 0x06 else 0) + (if high then 0x60 else 0)

/-- The adjustments of the two digits share no bit, so that their OR is their sum. -/
theorem adjust_toNat (low high : Bool) :
    ((if low then 0x06#8 else 0x00#8) ||| (if high then 0x60#8 else 0x00#8)).toNat = digitAdjust low high := by
  cases low <;> cases high <;> rfl

theorem daa8_add_toNat (a : Byte) (h c : Bool) :
    (daa8 a false h c).1.toNat = (a.toNat + digitAdjust (daaLow a false h) (daaHigh a false c)) % 256 := by
  rw [← adjust_toNat]
  exact BitVec.toNat_add ..

theorem daa8_sub_toNat (a : Byte) (h c : Bool) :
    (daa8 a true h c).1.toNat = (a.toNat + 256 - digitAdjust h c) % 256 := by
  have hlt := (daaSubAdjust h c).isLt
  calc (daa8 a true h c).1.toNat
      = (256 - (daaSubAdjust h c).toNat + a.toNat) % 256 := BitVec.toNat_sub ..
    _ = (a.toNat + 256 - (daaSubAdjust h c).toNat) % 256 := by congr 1; omega
    _ = (a.toNat + 256 - digitAdjust h c) % 256 := by rw [← adjust_toNat, daaSubAdjust]

/-- Both branches in one equation: after a subtraction the accumulator's digits do not count. -/
theorem daa8_toNat (a : Byte) (n h c : Bool) :
    (daa8 a n h c).1.toNat =
      if n then (a.toNat + 256 - digitAdjust (daaLow a n h) (daaHigh a n c)) % 256
        else (a.toNat + digitAdjust (daaLow a n h) (daaHigh a n c)) % 256 := by
  cases n
  case false => exact daa8_add_toNat a h c
  case true => simpa [daaLow, daaHigh] using daa8_sub_toNat a h c

theorem daa8_flags (a : Byte) (n h c : Bool) :
    (daa8 a n h c).2 = { z := decide ((daa8 a n h c).1 = 0), n := n, h := false, c := daaHigh a n c } := by
  cases n
  case false => rfl
  case true => simp [daa8, daaHigh]

/-! ## Decimal numbers (95_test_vectors.md T4) -/

theorem bcd_toNat {n : Nat} (hn : n < 100) : (bcd n).toNat = n / 10 * 16 + n % 10 :=
  Nat.mod_eq_of_lt (by omega)

/-- A sum above 0x99 shows in the carry or in the byte that is left. -/
theorem carry_or_byte_above_iff (sum : Nat) : sum > 255 ∨ sum % 256 > 0x99 ↔ sum > 0x99 := by
  omega

section
variable {x y : Nat} (hx : x < 100) (hy : y < 100)
include hx hy

/-- The low digit of a sum is adjusted when the ones carry in decimal. -/
theorem bcd_add_low :
    (decide ((bcd x).toNat % 16 + (bcd y).toNat % 16 + 0 > 15) ||
      decide (((bcd x).toNat + (bcd y).toNat + 0) % 256 % 16 > 0x9)) = decide (x % 10 + y % 10 ≥ 10) := by
  rw [bcd_toNat hx, bcd_toNat hy, ← Bool.decide_or]
  exact decide_eq_decide.mpr (by omega)

/-- The high digit of a sum is adjusted when the numbers carry in decimal. -/
theorem bcd_add_high :
    (decide ((bcd x).toNat + (bcd y).toNat + 0 > 255) ||
      decide (((bcd x).toNat + (bcd y).toNat + 0) % 256 > 0x99)) = decide (x + y ≥ 100) := by
  have htens : x / 10 + y / 10 < 10 ∨ 10 ≤ x / 10 + y / 10 := Nat.lt_or_ge _ _
  have hsum : x / 10 * 16 + x % 10 + (y / 10 * 16 + y % 10) + 0 > 0x99 ↔ x + y ≥ 100 := by omega
  rw [bcd_toNat hx, bcd_toNat hy, ← Bool.decide_or]
  exact decide_eq_decide.mpr ((carry_or_byte_above_iff _).trans hsum)

/-- The low digit of a difference borrows when the ones do. -/
theorem bcd_sub_low :
    decide ((bcd x).toNat % 16 < (bcd y).toNat % 16 + 0) = decide (x % 10 < y % 10) := by
  rw [bcd_toNat hx, bcd_toNat hy]
  exact decide_eq_decide.mpr (by omega)

theorem bcd_sub_high : decide ((bcd x).toNat < (bcd y).toNat + 0) = decide (x < y) := by
  rw [bcd_toNat hx, bcd_toNat hy]
  exact decide_eq_decide.mpr (by omega)

theorem bcd_add_adjusted :
    (((bcd x).toNat + (bcd y).toNat + 0) % 256 +
      digitAdjust (decide (x % 10 + y % 10 ≥ 10)) (decide (x + y ≥ 100))) % 256 =
      (bcd ((x + y) % 100)).toNat := by
  rw [bcd_toNat hx, bcd_toNat hy, bcd_toNat (Nat.mod_lt _ (by decide)), digitAdjust]
  simp only [decide_eq_true_eq]
  split <;> split <;> omega

theorem bcd_sub_adjusted :
    (((bcd x).toNat + 512 - (bcd y).toNat - 0) % 256 + 256 -
      digitAdjust (decide (x % 10 < y % 10)) (decide (x < y))) % 256 =
      (bcd ((x + 100 - y) % 100)).toNat := by
  rw [bcd_toNat hx, bcd_toNat hy, bcd_toNat (Nat.mod_lt _ (by decide)), digitAdjust]
  simp only [decide_eq_true_eq]
  split <;> split <;> omega

end

/-! ## The statements -/

/-- Settles O1: ADD is `add8` with no carry in, ADC with FC. -/
theorem addAdcResultFlagsFrame : Obligations.AddAdcResultFlagsFrame := fun _ =>
  ⟨aluRows_of_applyAlu fun _ _ _ hexec => addsToA_of_add8 (cin := false) hexec rfl,
    aluRows_of_applyAlu fun _ _ _ hexec => addsToA_of_add8 hexec rfl⟩

/-- Settles O2: SUB and CP are `sub8` with no borrow in, SBC with FC. -/
theorem subSbcCpResultFlagsFrame : Obligations.SubSbcCpResultFlagsFrame := fun _ =>
  ⟨aluRows_of_applyAlu fun _ _ _ hexec => subtractsFromA_of_sub8 (cin := false) hexec rfl,
    aluRows_of_applyAlu fun _ _ _ hexec => subtractsFromA_of_sub8 hexec rfl,
    aluRows_of_applyAlu fun _ _ _ hexec => subtractsFromA_of_sub8 (cin := false) hexec rfl⟩

/-- Settles O3: each operation is `logic8` of a bitwise operation. -/
theorem andXorOrResultFlagsFrame : Obligations.AndXorOrResultFlagsFrame := fun _ =>
  ⟨aluRows_of_applyAlu fun _ _ _ hexec => combinesWithA_of_logic8 hexec rfl fun _ => BitVec.getLsbD_and,
    aluRows_of_applyAlu fun _ _ _ hexec => combinesWithA_of_logic8 hexec rfl fun _ => BitVec.getLsbD_xor,
    aluRows_of_applyAlu fun _ _ _ hexec => combinesWithA_of_logic8 hexec rfl fun _ => BitVec.getLsbD_or⟩

/-- Settles O4: the operand is written with `inc8` or `dec8` of what it held. -/
theorem incDecByteResultFlagsFrame : Obligations.IncDecByteResultFlagsFrame := by
  intro r s
  rw [cost_eq_costBy]
  refine ⟨⟨encode_rowInc r, _, (exec_rowInc r s).trans (incOperand_eq r s), ?_, hasFlags_of_f ?_, rfl,
    onlyOperandWritten_writeOperand ..⟩, encode_rowDec r, _, (exec_rowDec r s).trans (decOperand_eq r s), ?_,
    hasFlags_of_f ?_, rfl, onlyOperandWritten_writeOperand ..⟩
  · rw [operandAfter_writeOperand]
    exact inc8_toNat _ s.flagC
  · rw [← inc8_z _ s.flagC]
    rfl
  · rw [operandAfter_writeOperand]
    exact dec8_toNat _ s.flagC
  · rw [← dec8_z _ s.flagC]
    rfl

/-- Settles O5, from the value and the flags of `daa8`. -/
theorem decimalAdjustResultFlagsFrame : Obligations.DecimalAdjustResultFlagsFrame := by
  intro s
  refine ⟨rfl, _, decimalAdjust_eq s, daa8_toNat .., hasFlags_of_f ?_, rfl, rfl⟩
  rw [State.putFlags_f, daa8_flags]
  rfl

theorem exec_daa_after_add {t : State} (hn : t.flagN = false) :
    ∃ u, exec .daa t = .next u ∧
      u.a.toNat = (t.a.toNat + digitAdjust (t.flagH || decide (t.a.toNat % 16 > 0x9))
        (t.flagC || decide (t.a.toNat > 0x99))) % 256 ∧
      u.flagN = false ∧ u.flagC = (t.flagC || decide (t.a.toNat > 0x99)) := by
  obtain ⟨-, u, hu, ha, ⟨-, hN, -, hC, -⟩, -, -⟩ := decimalAdjustResultFlagsFrame t
  rw [hn] at ha hN hC
  exact ⟨u, hu, ha, hN, hC⟩

theorem exec_daa_after_sub {t : State} (hn : t.flagN = true) :
    ∃ u, exec .daa t = .next u ∧
      u.a.toNat = (t.a.toNat + 256 - digitAdjust t.flagH t.flagC) % 256 ∧
      u.flagN = true ∧ u.flagC = t.flagC := by
  obtain ⟨-, u, hu, ha, ⟨-, hN, -, hC, -⟩, -, -⟩ := decimalAdjustResultFlagsFrame t
  simp only [hn, Bool.not_true, Bool.false_and, Bool.or_false] at ha hN hC
  exact ⟨u, hu, ha, hN, hC⟩

/-- Settles O6: the flags DAA reads are the decimal carries or borrows, by which it adjusts the two digits. -/
theorem decimalAdjustIsDecimal : Obligations.DecimalAdjustIsDecimal := by
  intro x y s hx hy ha hb
  constructor
  · obtain ⟨-, t, ht, hsum, ⟨-, hN, hH, hC, -⟩, -, -⟩ := (addAdcResultFlagsFrame s).1.1 .b
    obtain ⟨u, hu, hadj, huN, huC⟩ := exec_daa_after_add hN
    simp only [readOperand, ha, hb] at hsum hH hC
    rw [hC, hsum, bcd_add_high hx hy] at hadj huC
    rw [hH, bcd_add_low hx hy, bcd_add_adjusted hx hy] at hadj
    exact ⟨t, u, ht, hu, BitVec.eq_of_toNat_eq hadj, huN, huC⟩
  · obtain ⟨-, t, ht, hdiff, ⟨-, hN, hH, hC, -⟩, -, -⟩ := (subSbcCpResultFlagsFrame s).1.1 .b
    obtain ⟨u, hu, hadj, huN, huC⟩ := exec_daa_after_sub hN
    simp only [readOperand, ha, hb] at hdiff hH hC
    rw [hC, bcd_sub_high hx hy] at hadj huC
    rw [hH, bcd_sub_low hx hy, hdiff] at hadj
    exact ⟨t, u, ht, hu, BitVec.eq_of_toNat_eq (hadj.trans (bcd_sub_adjusted hx hy)), huN, huC⟩

end Sys2Proof.Machine
end

section
/-! PROOFS of the family 42_alu16.md. The layers, in order: what the rows encode to and run; the frame of a written
pair; the values of the word arithmetic; then the statements. -/

namespace Sys2Proof.Machine

open Sys2Proof.Claims

/-! ## The rows: their encodings and what they run (30_encoding.md R104, R118) -/

theorem encode_rowAddHL (p : Pair) : encode (rowAddHL p) = [byteOf (0x09 + 16 * pairCode p)] := by
  cases p <;> rfl

theorem encode_rowIncPair (p : Pair) : encode (rowIncPair p) = [byteOf (0x03 + 16 * pairCode p)] := by
  cases p <;> rfl

theorem encode_rowDecPair (p : Pair) : encode (rowDecPair p) = [byteOf (0x0B + 16 * pairCode p)] := by
  cases p <;> rfl

theorem exec_rowAddHL (p : Pair) (s : State) : exec (rowAddHL p) s = addToHL p s := by
  cases p <;> rfl

theorem exec_rowIncPair (p : Pair) (s : State) : exec (rowIncPair p) s = incPair p s := by
  cases p <;> rfl

theorem exec_rowDecPair (p : Pair) (s : State) : exec (rowDecPair p) s = decPair p s := by
  cases p <;> rfl

/-! ## The frame of a written pair (30_encoding.md R104) -/

/-- A pair other than the one written keeps its value: the four pairs share no register. -/
theorem readPair_writePair_other {q p : Pair} (v : Word) (s : State) (h : q ≠ p) :
    readPair q (writePair p v s) = readPair q s := by
  cases p
  case bc => cases q; exacts [absurd rfl h, rfl, rfl, rfl]
  case de => cases q; exacts [rfl, absurd rfl h, rfl, rfl]
  case hl => cases q; exacts [rfl, rfl, absurd rfl h, rfl]
  case sp => cases q; exacts [rfl, rfl, rfl, absurd rfl h]

theorem readPair_with_result (q : Pair) (res : StepResult) (s : State) :
    readPair q { s with result := res } = readPair q s := by
  cases q <;> rfl

/-- Writing a pair changes nothing but that pair. -/
theorem writePair_frame (p : Pair) (v : Word) (res : StepResult) (s : State) :
    let t := { writePair p v s with result := res }
    (∀ q, q ≠ p → readPair q t = readPair q s) ∧ t.a = s.a ∧ t.f = s.f ∧ t.pc = s.pc ∧
      t.illegalMode = s.illegalMode ∧ t.result = res ∧ ∀ x, t.readByte x = s.readByte x := by
  refine ⟨fun q hq => ?_, writePair_a .., writePair_f .., writePair_pc .., writePair_illegalMode .., rfl,
    fun x => congrArg (Memory.read · x) (writePair_mem p v s)⟩
  rw [readPair_with_result, readPair_writePair_other v s hq]

/-! ## The values of the word arithmetic (R250 to R252) -/

theorem add16_toNat (a b : Word) (z : Bool) : (add16 a b z).1.toNat = (a.toNat + b.toNat) % 65536 :=
  BitVec.toNat_ofNat ..

/-- Taking 1 away is adding 65,535, modulo 65,536. -/
theorem decWord_toNat (v : Word) : (v - 1).toNat = (v.toNat + 65535) % 65536 := by
  calc (v - 1).toNat
      = (65535 + v.toNat) % 65536 := BitVec.toNat_sub ..
    _ = (v.toNat + 65535) % 65536 := by rw [Nat.add_comm]

/-! ## The statements -/

/-- Settles O7: HL and F are written with the sum and the flags of `add16`, which takes FZ as it was. -/
theorem addHLResultFlagsFrame : Obligations.AddHLResultFlagsFrame := by
  intro p s
  refine ⟨encode_rowAddHL p, _, (exec_rowAddHL p s).trans (addToHL_eq p s), ?_, hasFlags_of_f rfl, rfl, rfl⟩
  calc (s.setHL (add16 s.hl (readPair p s) s.flagZ).1).hl.toNat
      = (add16 s.hl (readPair p s) s.flagZ).1.toNat := by rw [State.setHL_hl]
    _ = (s.hl.toNat + (readPair p s).toNat) % 65536 := add16_toNat ..

/-- Settles O8: the pair is written with its successor or predecessor, and nothing else is written. -/
theorem incDecPairResultFrame : Obligations.IncDecPairResultFrame := by
  intro p s
  refine ⟨⟨encode_rowIncPair p, _, (exec_rowIncPair p s).trans (incPair_eq p s), ?_, writePair_frame ..⟩,
    encode_rowDecPair p, _, (exec_rowDecPair p s).trans (decPair_eq p s), ?_, writePair_frame ..⟩
  · rw [readPair_with_result, readPair_writePair_same]
    exact BitVec.toNat_add ..
  · rw [readPair_with_result, readPair_writePair_same, decWord_toNat]

end Sys2Proof.Machine
end

section
/-! PROOFS of the family 43_rotate_shift.md. The layers, in order: what the rows encode to and run; the value and the
carry of `Rot` as arithmetic; what a CB rotate and an accumulator rotate leave; then the statements. -/

namespace Sys2Proof.Machine

open Sys2Proof.Claims

/-! ## The rows: their encodings and what they run (30_encoding.md R109, R122) -/

theorem encode_rowRot (op : RotOp) (r : Operand8) :
    encode (rowRot op r) = [0xCB#8, byteOf (8 * rotCode op + operandCode r)] := by
  cases op <;> cases r <;> rfl

theorem exec_rowRot (op : RotOp) (r : Operand8) (s : State) : exec (rowRot op r) s = rotateOperand op r s := by
  cases op <;> cases r <;> rfl

/-! ## Rot as arithmetic on the value of the byte (R304) -/

/-- A byte of whole multiples of `2 ^ n` and a byte below `2 ^ n` share no bit: their OR is their sum. -/
theorem or_toNat_eq_add {high low : Byte} (n k : Nat) (hhigh : high.toNat = 2 ^ n * k) (hlow : low.toNat < 2 ^ n) :
    (high ||| low).toNat = high.toNat + low.toNat := by
  rw [BitVec.toNat_or, hhigh, Nat.two_pow_add_eq_or_of_lt hlow]

theorem bit7_eq_decide (v : Byte) : v.getLsbD 7 = decide (v.toNat ≥ 128) := BitVec.msb_eq_decide v

theorem bit0_eq_decide (v : Byte) : v.getLsbD 0 = decide (v.toNat % 2 = 1) := Nat.testBit_zero v.toNat

theorem bit7_toNat (v : Byte) : (v.getLsbD 7).toNat = v.toNat / 128 := by
  calc (v.getLsbD 7).toNat
      = v.toNat / 128 % 2 := Nat.toNat_testBit v.toNat 7
    _ = v.toNat / 128 := by have := v.isLt; omega

theorem bit0_toNat (v : Byte) : (v.getLsbD 0).toNat = v.toNat % 2 := by
  calc (v.getLsbD 0).toNat
      = v.toNat / 1 % 2 := Nat.toNat_testBit v.toNat 0
    _ = v.toNat % 2 := by rw [Nat.div_one]

theorem shiftLeft_one_toNat (v : Byte) : (v <<< 1).toNat = v.toNat * 2 % 256 := by
  rw [BitVec.toNat_shiftLeft, Nat.shiftLeft_eq]

theorem shiftRight_one_toNat (v : Byte) : (v >>> 1).toNat = v.toNat / 2 := by
  rw [BitVec.toNat_ushiftRight, Nat.shiftRight_eq_div_pow]

theorem bitByte_toNat (b : Bool) : (bitByte b).toNat = b.toNat := by
  cases b <;> rfl

theorem bitByte_shiftLeft_seven_toNat (b : Bool) : (bitByte b <<< 7).toNat = b.toNat * 128 := by
  cases b <;> rfl

/-- A shift to the left with `b` brought in at bit 0. -/
theorem rotateLeft_toNat (v : Byte) (b : Bool) :
    ((v <<< 1) ||| bitByte b).toNat = v.toNat * 2 % 256 + b.toNat := by
  have hb := b.toNat_le
  rw [or_toNat_eq_add 1 (v.toNat % 128) (by rw [shiftLeft_one_toNat]; omega) (by rw [bitByte_toNat]; omega),
    shiftLeft_one_toNat, bitByte_toNat]

/-- A shift to the right with `b` brought in at bit 7. -/
theorem rotateRight_toNat (v : Byte) (b : Bool) :
    ((v >>> 1) ||| (bitByte b <<< 7)).toNat = v.toNat / 2 + b.toNat * 128 := by
  have hv := v.isLt
  rw [BitVec.or_comm,
    or_toNat_eq_add 7 b.toNat (by rw [bitByte_shiftLeft_seven_toNat]; omega) (by rw [shiftRight_one_toNat]; omega),
    shiftRight_one_toNat, bitByte_shiftLeft_seven_toNat, Nat.add_comm]

/-- SRA brings in bit 7 as it was. -/
theorem signBit_eq_bitByte (v : Byte) : v &&& 0x80#8 = bitByte (v.getLsbD 7) <<< 7 := by
  apply BitVec.eq_of_toNat_eq
  calc (v &&& 0x80#8).toNat
      = (v.getLsbD 7).toNat * 128 := Nat.and_two_pow v.toNat 7
    _ = (bitByte (v.getLsbD 7) <<< 7).toNat := (bitByte_shiftLeft_seven_toNat _).symm

theorem swapNibbles_toNat (v : Byte) :
    (((v &&& 0x0F#8) <<< 4) ||| (v >>> 4)).toNat = v.toNat % 16 * 16 + v.toNat / 16 := by
  have hlow : (v &&& 0x0F#8).toNat = v.toNat % 16 := Nat.and_two_pow_sub_one_eq_mod v.toNat 4
  have hleft : ((v &&& 0x0F#8) <<< 4).toNat = v.toNat % 16 * 16 := by
    rw [BitVec.toNat_shiftLeft, Nat.shiftLeft_eq, hlow]
    omega
  have hright : (v >>> 4).toNat = v.toNat / 16 := by
    rw [BitVec.toNat_ushiftRight, Nat.shiftRight_eq_div_pow]
  have hv := v.isLt
  rw [or_toNat_eq_add 4 (v.toNat % 16) (by omega) (by omega), hleft, hright]

theorem rot_toNat (op : RotOp) (v : Byte) (cin : Bool) : (rot op v cin).1.toNat = rotValue op v.toNat cin.toNat := by
  cases op
  case rlc => rw [rotValue, ← bit7_toNat]; exact rotateLeft_toNat ..
  case rrc => rw [rotValue, ← bit0_toNat]; exact rotateRight_toNat ..
  case rl => exact rotateLeft_toNat ..
  case rr => exact rotateRight_toNat ..
  case sla => exact shiftLeft_one_toNat v
  case sra => rw [rot, rotValue, signBit_eq_bitByte, ← bit7_toNat]; exact rotateRight_toNat ..
  case swap => exact swapNibbles_toNat v
  case srl => exact shiftRight_one_toNat v

theorem rot_carry (op : RotOp) (v : Byte) (cin : Bool) : (rot op v cin).2 = rotCarry op v.toNat := by
  cases op
  case rlc | rl | sla => exact bit7_eq_decide v
  case rrc | rr | sra | srl => exact bit0_eq_decide v
  case swap => rfl

theorem rot_zero (op : RotOp) (v : Byte) (cin : Bool) :
    decide ((rot op v cin).1 = 0) = decide (rotValue op v.toNat cin.toNat = 0) := by
  rw [← rot_toNat]
  exact decide_eq_decide.mpr BitVec.toNat_inj.symm

/-- T5 on the byte: each SWAP exchanges the two nibbles, whatever the carry. -/
theorem rot_swap_swap (v : Byte) (c d : Bool) : (rot .swap (rot .swap v c).1 d).1 = v := by
  have hv := v.isLt
  apply BitVec.eq_of_toNat_eq
  rw [rot_toNat, rot_toNat, rotValue, rotValue]
  omega

/-! ## What a CB rotate leaves (R305 to R320) -/

/-- The state after the CB rotate, shift or SWAP `op` of the operand `r`. -/
def rotated (op : RotOp) (r : Operand8) (s : State) : State :=
  { writeOperand r (rot op (readOperand r s) s.flagC).1 s with
    f := packFlags (decide ((rot op (readOperand r s) s.flagC).1 = 0)) false false
      (rot op (readOperand r s) s.flagC).2
    result := .ok (costBy r 2 4) }

theorem exec_rowRot_eq_rotated (op : RotOp) (r : Operand8) (s : State) :
    exec (rowRot op r) s = .next (rotated op r s) := (exec_rowRot op r s).trans (rotateOperand_eq op r s)

theorem hasFlags_rotated (op : RotOp) (r : Operand8) (s : State) :
    HasFlags (rotated op r s) (decide (rotValue op (readOperand r s).toNat s.flagC.toNat = 0)) false false
      (rotCarry op (readOperand r s).toNat) := by
  rw [← rot_zero, ← rot_carry op _ s.flagC]
  exact hasFlags_of_f rfl

theorem onlyOperandWritten_rotated (op : RotOp) (r : Operand8) (s : State) :
    OnlyOperandWritten r s (rotated op r s) := onlyOperandWritten_writeOperand ..

theorem costBy_register {r : Operand8} (hr : r ≠ .indHL) (reg mem : Nat) : costBy r reg mem = reg := by
  rw [← cost_eq_costBy, cost, if_neg hr]

/-! ## The operand read again, and two writes one after the other -/

/-- While HL stays as it was, (HL) names the same byte after as before. -/
theorem operandAfter_eq_readOperand {r : Operand8} {s t : State} (hhl : r = .indHL → t.hl = s.hl) :
    operandAfter r s t = readOperand r t := by
  cases r
  case indHL => rw [readOperand, hhl rfl, operandAfter]
  case a | b | c | d | e | h | l => rfl

/-- The rotate of (HL) writes no register but F (R306). -/
theorem hl_rotated {r : Operand8} (op : RotOp) (s : State) (hr : r = .indHL) : (rotated op r s).hl = s.hl := by
  subst hr
  rfl

theorem readOperand_rotated (op : RotOp) (r : Operand8) (s : State) :
    readOperand r (rotated op r s) = (rot op (readOperand r s) s.flagC).1 := by
  rw [← operandAfter_eq_readOperand (hl_rotated op s)]
  exact operandAfter_writeOperand ..

theorem readOperand_rotated_toNat (op : RotOp) (r : Operand8) (s : State) :
    (readOperand r (rotated op r s)).toNat = rotValue op (readOperand r s).toNat s.flagC.toNat := by
  rw [readOperand_rotated, rot_toNat]

/-- Two writes of one operand in turn; for (HL) HL must not move between them. -/
theorem onlyOperandWritten_trans {r : Operand8} {s t u : State} (hst : OnlyOperandWritten r s t)
    (htu : OnlyOperandWritten r t u) (hhl : r = .indHL → t.hl = s.hl) : OnlyOperandWritten r s u := by
  obtain ⟨hreg, hsp, hpc, hmode, hmem⟩ := hst
  obtain ⟨hreg', hsp', hpc', hmode', hmem'⟩ := htu
  refine ⟨fun q hne hq => (hreg' q hne hq).trans (hreg q hne hq), hsp'.trans hsp, hpc'.trans hpc,
    hmode'.trans hmode, fun x hx => ?_⟩
  have hx' : r = .indHL → x ≠ t.hl := fun hr => hhl hr ▸ hx hr
  exact (hmem' x hx').trans (hmem x hx)

/-! ## What an accumulator rotate leaves (R300 to R303, R321) -/

section
variable {i : Instr} {op : RotOp} {s : State} (hexec : exec i s = rotateA op s)
include hexec

theorem accumulatorRotate_leaves :
    ∃ t, exec i s = .next t ∧
      t.a.toNat = rotValue op s.a.toNat s.flagC.toNat ∧
      HasFlags t false false false (rotCarry op s.a.toNat) ∧
      t.result = .ok 1 ∧ t = { s with a := t.a, f := t.f, result := t.result } := by
  refine ⟨_, hexec.trans (rotateA_eq op s), rot_toNat .., ?_, rfl, rfl⟩
  rw [← rot_carry op s.a s.flagC]
  exact hasFlags_of_f rfl

/-- The two forms leave the one byte and carry of `Rot`; Z and the count are each form's own. -/
theorem rotateA_forms_differ :
    ∃ t u, exec (rowRot op .a) s = .next t ∧ exec i s = .next u ∧ t.a = u.a ∧ t.flagC = u.flagC ∧
      t.flagZ = decide (t.a = 0) ∧ u.flagZ = false ∧ t.result = .ok 2 ∧ u.result = .ok 1 :=
  ⟨_, _, exec_rowRot_eq_rotated op .a s, hexec.trans (rotateA_eq op s), rfl,
    (packFlags_c ..).trans (packFlags_c ..).symm, packFlags_z .., packFlags_z .., rfl, rfl⟩

end

/-! ## The statements -/

/-- Settles O9: A is written with `Rot` of A, and F with its carry alone. -/
theorem accumulatorRotatesResultFlagsFrame : Obligations.AccumulatorRotatesResultFlagsFrame := by
  intro s
  simp only [List.forall_mem_cons]
  exact ⟨⟨rfl, accumulatorRotate_leaves rfl⟩, ⟨rfl, accumulatorRotate_leaves rfl⟩,
    ⟨rfl, accumulatorRotate_leaves rfl⟩, ⟨rfl, accumulatorRotate_leaves rfl⟩, List.forall_mem_nil _⟩

/-- Settles O10: the register is written with `Rot` of what it held. -/
theorem rotateRegisterResultFlagsFrame : Obligations.RotateRegisterResultFlagsFrame := by
  intro op r s hr
  exact ⟨encode_rowRot op r, _, exec_rowRot_eq_rotated op r s, readOperand_rotated_toNat op r s,
    hasFlags_rotated op r s, congrArg StepResult.ok (costBy_register hr 2 4), onlyOperandWritten_rotated op r s⟩

/-- Settles O11: the byte at HL is written with `Rot` of what it held, and no register but F. -/
theorem rotateMemoryResultFlagsFrame : Obligations.RotateMemoryResultFlagsFrame := by
  intro op s
  obtain ⟨-, -, -, -, hmem⟩ := onlyOperandWritten_rotated op .indHL s
  exact ⟨encode_rowRot op .indHL, _, exec_rowRot_eq_rotated op .indHL s, readOperand_rotated_toNat op .indHL s,
    hasFlags_rotated op .indHL s, rfl, fun x hx => hmem x fun _ => List.ne_of_not_mem_cons hx, rfl⟩

/-- Settles O12: both forms of each of the four rotates run the same `Rot` of A. -/
theorem rotateAFormsDifferInZeroAndCost : Obligations.RotateAFormsDifferInZeroAndCost := by
  intro s
  simp only [List.forall_mem_cons]
  exact ⟨⟨rfl, rfl, rotateA_forms_differ (op := .rlc) rfl⟩, ⟨rfl, rfl, rotateA_forms_differ (op := .rrc) rfl⟩,
    ⟨rfl, rfl, rotateA_forms_differ (op := .rl) rfl⟩, ⟨rfl, rfl, rotateA_forms_differ (op := .rr) rfl⟩,
    List.forall_mem_nil _⟩

/-- Settles O13: the second SWAP reads what the first wrote, at the same HL, and puts the nibbles back. -/
theorem swapTwiceRestores : Obligations.SwapTwiceRestores := by
  intro r s
  have hhl := hl_rotated (r := r) .swap s
  refine ⟨_, _, exec_rowRot_eq_rotated .swap r s, exec_rowRot_eq_rotated .swap r _, ?_,
    onlyOperandWritten_trans (onlyOperandWritten_rotated .swap r s) (onlyOperandWritten_rotated .swap r _) hhl⟩
  calc operandAfter r s (rotated .swap r (rotated .swap r s))
      = readOperand r (rotated .swap r (rotated .swap r s)) :=
        operandAfter_eq_readOperand fun hr => (hl_rotated .swap _ hr).trans (hhl hr)
    _ = readOperand r s := by rw [readOperand_rotated, readOperand_rotated, rot_swap_swap]

end Sys2Proof.Machine
end

section
/-! PROOFS of the family 44_bit.md. The layers, in order: what the rows encode to and run; the bit of a byte, and the
masks that clear and set it; an operand written with no flag; then the statements. -/

namespace Sys2Proof.Machine

open Sys2Proof.Claims

/-! ## The rows: their encodings and what they run (30_encoding.md R110, R122) -/

theorem encode_rowBit (i : BitIndex) (r : Operand8) :
    encode (rowBit i r) = [0xCB#8, byteOf (0x40 + 8 * bitCode i + operandCode r)] := by
  cases i <;> cases r <;> rfl

theorem encode_rowRes (i : BitIndex) (r : Operand8) :
    encode (rowRes i r) = [0xCB#8, byteOf (0x80 + 8 * bitCode i + operandCode r)] := by
  cases i <;> cases r <;> rfl

theorem encode_rowSet (i : BitIndex) (r : Operand8) :
    encode (rowSet i r) = [0xCB#8, byteOf (0xC0 + 8 * bitCode i + operandCode r)] := by
  cases i <;> cases r <;> rfl

theorem exec_rowBit (i : BitIndex) (r : Operand8) (s : State) : exec (rowBit i r) s = bitTest i r s := by
  cases i <;> cases r <;> rfl

theorem exec_rowRes (i : BitIndex) (r : Operand8) (s : State) : exec (rowRes i r) s = bitReset i r s := by
  cases i <;> cases r <;> rfl

theorem exec_rowSet (i : BitIndex) (r : Operand8) (s : State) : exec (rowSet i r) s = bitSet i r s := by
  cases i <;> cases r <;> rfl

/-! ## The bit of a byte (R350 to R355) -/

theorem bitNumber_eq_bitCode (i : BitIndex) : bitNumber i = bitCode i := by
  cases i <;> rfl

theorem bitCode_lt (i : BitIndex) : bitCode i < 8 := by
  cases i <;> decide

/-- BIT's zero flag as arithmetic on the value of the byte. -/
theorem not_getLsbD_bitNumber (i : BitIndex) (v : Byte) :
    (!v.getLsbD (bitNumber i)) = decide (v.toNat / 2 ^ bitCode i % 2 = 0) := by
  rw [bitNumber_eq_bitCode, BitVec.getLsbD, Nat.testBit_eq_decide_div_mod_eq, ← decide_not, decide_eq_decide]
  exact Nat.mod_two_ne_one

theorem bitMask_getLsbD (i : BitIndex) (k : Nat) : (bitMask i).getLsbD k = decide (k = bitCode i) := by
  calc (bitMask i).getLsbD k
      = (decide (bitNumber i < 8) && decide (bitNumber i = k)) := BitVec.getLsbD_twoPow ..
    _ = decide (k = bitCode i) := by simp [bitNumber_eq_bitCode, bitCode_lt, eq_comm]

theorem and_not_bitMask_getLsbD (i : BitIndex) (v : Byte) {k : Nat} (hk : k < 8) :
    (v &&& ~~~bitMask i).getLsbD k = if k = bitCode i then false else v.getLsbD k := by
  rw [BitVec.getLsbD_and, BitVec.getLsbD_not, bitMask_getLsbD]
  by_cases h : k = bitCode i <;> simp [h, hk]

theorem or_bitMask_getLsbD (i : BitIndex) (v : Byte) (k : Nat) :
    (v ||| bitMask i).getLsbD k = if k = bitCode i then true else v.getLsbD k := by
  rw [BitVec.getLsbD_or, bitMask_getLsbD]
  by_cases h : k = bitCode i <;> simp [h]

/-! ## An operand written with no flag (30_encoding.md R103) -/

theorem operandAfter_writeOperand_with_result (r : Operand8) (v : Byte) (res : StepResult) (s : State) :
    operandAfter r s { writeOperand r v s with result := res } = v := operandAfter_writeOperand ..

/-- Writing an operand changes nothing but that operand, and F neither. -/
theorem writeOperand_frame (r : Operand8) (v : Byte) (res : StepResult) (s : State) :
    let t := { writeOperand r v s with result := res }
    t.f = s.f ∧ t.result = res ∧ OnlyOperandWritten r s t :=
  ⟨writeOperand_f .., rfl, onlyOperandWritten_writeOperand ..⟩

/-! ## The statements -/

/-- Settles O14: F is written with the complement of the bit, and nothing else is written. -/
theorem bitTestFlagsFrame : Obligations.BitTestFlagsFrame := by
  intro i r s
  rw [← not_getLsbD_bitNumber, cost_eq_costBy]
  exact ⟨encode_rowBit i r, _, (exec_rowBit i r s).trans (bitTest_eq i r s), hasFlags_of_f rfl, rfl, rfl⟩

/-- Settles O15: the operand is written with its byte masked by the one bit, and F is not written. -/
theorem bitResetSetResultFrame : Obligations.BitResetSetResultFrame := by
  intro i r s
  rw [cost_eq_costBy]
  refine ⟨⟨encode_rowRes i r, _, (exec_rowRes i r s).trans (bitReset_eq i r s), fun k hk => ?_, writeOperand_frame ..⟩,
    encode_rowSet i r, _, (exec_rowSet i r s).trans (bitSet_eq i r s), fun k _ => ?_, writeOperand_frame ..⟩
  · rw [operandAfter_writeOperand_with_result, and_not_bitMask_getLsbD i _ hk]
  · rw [operandAfter_writeOperand_with_result, or_bitMask_getLsbD]

end Sys2Proof.Machine
end

section
/-! PROOFS of the family 45_load_store.md. The layers, in order: what the rows encode to and run; A stored and
loaded; the addresses of the high page; the value of a stack-pointer sum; then the statements. -/

namespace Sys2Proof.Machine

open Sys2Proof.Claims

/-! ## The rows: their encodings and what they run (30_encoding.md R118, R119) -/

theorem encode_rowLd (dst src : Operand8) :
    encode (rowLd dst src) = [byteOf (0x40 + 8 * operandCode dst + operandCode src)] := by
  cases dst <;> cases src <;> rfl

theorem encode_rowLdImm8 (dst : Operand8) (d8 : Byte) :
    encode (rowLdImm8 dst d8) = [byteOf (0x06 + 8 * operandCode dst), d8] := by
  cases dst <;> rfl

theorem encode_rowLdImm16 (p : Pair) (d16 : Word) :
    encode (rowLdImm16 p d16) = [byteOf (0x01 + 16 * pairCode p), lowByte d16, highByte d16] := by
  cases p <;> rfl

theorem encode_rowStoreInd (m : Indirect) : encode (rowStoreInd m) = [byteOf (0x02 + 16 * indirectCode m)] := by
  cases m <;> rfl

theorem encode_rowLoadInd (m : Indirect) : encode (rowLoadInd m) = [byteOf (0x0A + 16 * indirectCode m)] := by
  cases m <;> rfl

/-- The row of (HL) to (HL) is HALT (R119). -/
theorem exec_rowLd {dst src : Operand8} (hrow : ¬(dst = .indHL ∧ src = .indHL)) (s : State) :
    exec (rowLd dst src) s = loadOperand dst src s := by
  cases src
  case indHL =>
    cases dst
    case indHL => exact absurd ⟨rfl, rfl⟩ hrow
    case a | b | c | d | e | h | l => rfl
  case a | b | c | d | e | h | l => cases dst <;> rfl

theorem exec_rowLdImm8 (dst : Operand8) (d8 : Byte) (s : State) :
    exec (rowLdImm8 dst d8) s = loadImmediate8 dst d8 s := by
  cases dst <;> rfl

theorem exec_rowLdImm16 (p : Pair) (d16 : Word) (s : State) :
    exec (rowLdImm16 p d16) s = loadImmediate16 p d16 s := by
  cases p <;> rfl

theorem exec_rowStoreInd (m : Indirect) (s : State) : exec (rowStoreInd m) s = storeIndirect m s := by
  cases m <;> rfl

theorem exec_rowLoadInd (m : Indirect) (s : State) : exec (rowLoadInd m) s = loadIndirect m s := by
  cases m <;> rfl

/-- LD costs 2 cycles where a side is (HL), and 1 between registers. -/
theorem costBy_either (dst src : Operand8) :
    costBy dst (costBy src 1 2) 2 = if dst = .indHL ∨ src = .indHL then 2 else 1 := by
  cases dst
  case indHL => rfl
  case a | b | c | d | e | h | l => cases src <;> rfl

/-! ## A stored at an address and loaded from one (R414 to R419, 20_memory.md R73) -/

section
variable {s t : State} {x : Word} {v : Byte} (hmem : t.mem = Memory.write s.mem x v)
include hmem

theorem readByte_of_mem_eq_write : t.readByte x = v := by
  rw [State.readByte, hmem, Memory.read_write_same]

theorem memoryKeptBut_of_mem_eq_write : MemoryKeptBut [x] s t := by
  intro y hy
  rw [State.readByte, hmem, Memory.read_write_other _ _ (List.ne_of_not_mem_cons hy), State.readByte]

end

/-- What the store of A at `addr` leaves (R414, R416, R418). -/
theorem storeA_leaves {i : Instr} {addr : Word} {n : Nat} {s : State} (hexec : exec i s = storeA addr n s) :
    ∃ t, exec i s = .next t ∧ t.readByte addr = s.a ∧ MemoryKeptBut [addr] s t ∧ t.result = .ok n ∧
      t = { s with mem := t.mem, result := t.result } :=
  ⟨_, hexec.trans (storeA_eq addr n s), readByte_of_mem_eq_write rfl, memoryKeptBut_of_mem_eq_write rfl, rfl, rfl⟩

/-- What the load of A from `addr` leaves (R415, R417, R419). -/
theorem loadA_leaves {i : Instr} {addr : Word} {n : Nat} {s : State} (hexec : exec i s = loadA addr n s) :
    ∃ t, exec i s = .next t ∧ t.a = s.readByte addr ∧ t.result = .ok n ∧
      t = { s with a := t.a, result := t.result } :=
  ⟨_, hexec.trans (loadA_eq addr n s), rfl, rfl, rfl⟩

/-! ## The addresses of the high page (30_encoding.md R116) -/

theorem highPage_eq_ofNat (n : Byte) : highPage n = BitVec.ofNat 16 (0xFF00 + n.toNat) := by
  apply BitVec.eq_of_toNat_eq
  rw [highPage, BitVec.toNat_add, BitVec.toNat_ofNat, BitVec.toNat_setWidth_of_le (by decide)]
  rfl

/-! ## The value of a stack-pointer sum (R422) -/

/-- A sign-extended byte as the word that is added for it: 0xFF00 is above it where its bit 7 is 1 (R115). -/
theorem signExtend16_toNat (n : Byte) :
    (signExtend16 n).toNat = if n.toNat < 128 then n.toNat else n.toNat + 0xFF00 := by
  have hmsb : n.msb = decide (n.toNat ≥ 128) := BitVec.msb_eq_decide n
  rw [signExtend16, BitVec.toNat_signExtend, BitVec.toNat_setWidth_of_le (by decide), hmsb]
  simp only [decide_eq_true_eq]
  split <;> split <;> omega

theorem spPlusE8_toNat (sp : Word) (n : Byte) :
    (spPlusE8 sp n).1.toNat = (sp.toNat + (if n.toNat < 128 then n.toNat else n.toNat + 0xFF00)) % 65536 := by
  rw [← signExtend16_toNat]
  exact BitVec.toNat_add ..

/-! ## The statements -/

/-- Settles O16: the destination is written with what the source held, at the HL of before. -/
theorem loadOperandResultFrame : Obligations.LoadOperandResultFrame := by
  intro dst src s hrow
  rw [← costBy_either]
  exact ⟨encode_rowLd dst src, _, (exec_rowLd hrow s).trans (loadOperand_eq dst src s),
    operandAfter_writeOperand_with_result .., writeOperand_frame ..⟩

/-- Settles O17: the operand or the pair is written with the immediate, and nothing else is written. -/
theorem loadImmediateResultFrame : Obligations.LoadImmediateResultFrame := by
  constructor
  · intro dst d8 s
    rw [cost_eq_costBy]
    exact ⟨encode_rowLdImm8 dst d8, _, (exec_rowLdImm8 dst d8 s).trans (loadImmediate8_eq dst d8 s),
      operandAfter_writeOperand_with_result .., writeOperand_frame ..⟩
  · intro p d16 s
    refine ⟨encode_rowLdImm16 p d16, _, (exec_rowLdImm16 p d16 s).trans (loadImmediate16_eq p d16 s), ?_,
      writePair_frame ..⟩
    rw [readPair_with_result, readPair_writePair_same]

/-- Settles O18: the address is resolved with the HL of before, and HL is left as the resolution leaves it. -/
theorem indirectLoadStoreResultFrame : Obligations.IndirectLoadStoreResultFrame := by
  intro m s addr hl'
  have haddr : (resolveIndirect m s).1 = addr := by cases m <;> rfl
  have hhl : (resolveIndirect m s).2.hl.toNat = hl' := by
    cases m
    case bc | de => rfl
    case hlInc => rw [resolveIndirect, State.setHL_hl]; exact BitVec.toNat_add ..
    case hlDec => rw [resolveIndirect, State.setHL_hl, decWord_toNat]
  rw [← haddr]
  exact ⟨⟨encode_rowStoreInd m, _, (exec_rowStoreInd m s).trans (storeIndirect_eq m s),
      readByte_of_mem_eq_write rfl, memoryKeptBut_of_mem_eq_write rfl, hhl, rfl, rfl⟩,
    encode_rowLoadInd m, _, (exec_rowLoadInd m s).trans (loadIndirect_eq m s), rfl, hhl, rfl, rfl⟩

/-- Settles O19: the six are a store or a load of A, at an address of the high page or at `a16`. -/
theorem highPageAbsoluteResultFrame : Obligations.HighPageAbsoluteResultFrame := by
  intro a8 a16 s
  simp only [← highPage_eq_ofNat]
  exact ⟨⟨rfl, storeA_leaves rfl⟩, ⟨rfl, loadA_leaves rfl⟩, ⟨rfl, storeA_leaves rfl⟩, ⟨rfl, loadA_leaves rfl⟩,
    ⟨rfl, storeA_leaves rfl⟩, rfl, loadA_leaves rfl⟩

/-- Settles O20: memory is written with the word SP at `a16`. -/
theorem storeStackPointerResultFrame : Obligations.StoreStackPointerResultFrame := by
  intro a16 s
  have hexec : exec (.ldIndA16SP a16) s = .next { s.writeWord a16 s.sp with result := .ok 5 } := rfl
  refine ⟨rfl, _, hexec, ?_, ?_, s.writeWord_keeps_others a16 s.sp, rfl, rfl⟩
  · calc ((s.writeWord a16 s.sp).readByte a16).toNat
        = (lowByte s.sp).toNat := by rw [State.readByte_writeWord_low]
      _ = s.sp.toNat % 256 := lowByte_toNat s.sp
  · calc ((s.writeWord a16 s.sp).readByte (a16 + 1)).toNat
        = (highByte s.sp).toNat := by rw [State.readByte_writeWord_high]
      _ = s.sp.toNat / 256 := highByte_toNat s.sp

/-- Settles O21: SP or HL is written with the sum of `spPlusE8`, and F with its flags. -/
theorem stackPointerArithmeticResultFlagsFrame : Obligations.StackPointerArithmeticResultFlagsFrame := by
  intro e8 s sum half carry
  refine ⟨⟨rfl, _, rfl, rfl, rfl, rfl⟩,
    ⟨rfl, _, addToSP_eq e8 s, spPlusE8_toNat s.sp e8, hasFlags_of_f rfl, rfl, rfl⟩,
    rfl, _, loadHLFromSP_eq e8 s, ?_, hasFlags_of_f rfl, rfl, rfl⟩
  calc (s.setHL (spPlusE8 s.sp e8).1).hl.toNat
      = (spPlusE8 s.sp e8).1.toNat := by rw [State.setHL_hl]
    _ = sum := spPlusE8_toNat s.sp e8

end Sys2Proof.Machine
end

section
/-! PROOFS of the family 46_control.md. The layers, in order: what the rows encode to and run; the stack; what a
jump, a call, a return and a conditional transfer leave; what PUSH and POP leave; then the statements. -/

namespace Sys2Proof.Machine

open Sys2Proof.Claims

/-! ## The rows: their encodings and what they run (30_encoding.md R118, R121) -/

theorem encode_rowJr (cc : Cond) (e8 : Byte) : encode (rowJr cc e8) = [byteOf (0x20 + 8 * condCode cc), e8] := by
  cases cc <;> rfl

theorem encode_rowJp (cc : Cond) (a16 : Word) :
    encode (rowJp cc a16) = [byteOf (0xC2 + 8 * condCode cc), lowByte a16, highByte a16] := by
  cases cc <;> rfl

theorem encode_rowCall (cc : Cond) (a16 : Word) :
    encode (rowCall cc a16) = [byteOf (0xC4 + 8 * condCode cc), lowByte a16, highByte a16] := by
  cases cc <;> rfl

theorem encode_rowRet (cc : Cond) : encode (rowRet cc) = [byteOf (0xC0 + 8 * condCode cc)] := by
  cases cc <;> rfl

theorem encode_rowRst (t : Restart) : encode (rowRst t) = [byteOf (0xC7 + 8 * restartCode t)] := by
  cases t <;> rfl

theorem encode_rowPush (q : StackPair) : encode (rowPush q) = [byteOf (0xC5 + 16 * stackPairCode q)] := by
  cases q <;> rfl

theorem encode_rowPop (q : StackPair) : encode (rowPop q) = [byteOf (0xC1 + 16 * stackPairCode q)] := by
  cases q <;> rfl

theorem exec_rowJr (cc : Cond) (e8 : Byte) (s : State) : exec (rowJr cc e8) s = jumpRelativeIf cc e8 s := by
  cases cc <;> rfl

theorem exec_rowJp (cc : Cond) (a16 : Word) (s : State) : exec (rowJp cc a16) s = jumpIf cc a16 s := by
  cases cc <;> rfl

theorem exec_rowCall (cc : Cond) (a16 : Word) (s : State) : exec (rowCall cc a16) s = callIf cc a16 s := by
  cases cc <;> rfl

theorem exec_rowRet (cc : Cond) (s : State) : exec (rowRet cc) s = returnIf cc s := by
  cases cc <;> rfl

theorem exec_rowRst (t : Restart) (s : State) :
    exec (rowRst t) s = finish 4 (callTo (restartAddress t) s) := by
  cases t <;> rfl

theorem exec_rowPush (q : StackPair) (s : State) : exec (rowPush q) s = pushPair q s := by
  cases q <;> rfl

theorem exec_rowPop (q : StackPair) (s : State) : exec (rowPop q) s = popPair q s := by
  cases q <;> rfl

theorem condHolds_eq_condition (cc : Cond) (s : State) : condHolds cc s = condition cc s := by
  cases cc
  case nz | nc => rw [condHolds, condition, Bool.decide_eq_false]
  case z | c => rfl

theorem restartAddress_eq_ofNat (t : Restart) : restartAddress t = BitVec.ofNat 16 (8 * restartCode t) := by
  cases t <;> rfl

/-! ## The stack (R450, R451) -/

/-- SP moves by 1 for each of the two bytes, modulo 65,536. -/
theorem sub_one_sub_one (sp : Word) : sp - 1 - 1 = sp - 2 := sub_sub ..

theorem add_one_add_one (sp : Word) : sp + 1 + 1 = sp + 2 := BitVec.add_assoc ..

theorem sub_two_add_one (sp : Word) : sp - 2 + 1 = sp - 1 := by
  rw [← sub_one_sub_one, BitVec.sub_add_cancel]

@[simp] theorem push16_sp (v : Word) (s : State) : (push16 v s).sp = s.sp - 2 := sub_one_sub_one s.sp

theorem readByte_push16 (v : Word) (s : State) (x : Word) :
    (push16 v s).readByte x =
      if x = s.sp - 2 then lowByte v else if x = s.sp - 1 then highByte v else s.readByte x := by
  rw [push16_eq, State.readByte, Memory.read_write, Memory.read_write, sub_one_sub_one, State.readByte]

theorem pushed_of_push16 {v : Word} {s t : State} (hsp : t.sp = (push16 v s).sp) (hmem : t.mem = (push16 v s).mem) :
    Pushed v s t := by
  have hread : ∀ x, t.readByte x = (push16 v s).readByte x := fun x => congrArg (Memory.read · x) hmem
  have hne : s.sp - 1 ≠ s.sp - 2 := by bv_omega
  refine ⟨hsp.trans (push16_sp v s), ?_, ?_, fun x hx => ?_⟩
  · rw [hread, readByte_push16, if_neg hne, if_pos rfl]
  · rw [hread, readByte_push16, if_pos rfl]
  · obtain ⟨hhigh, hlow⟩ : x ≠ s.sp - 1 ∧ x ≠ s.sp - 2 := by simpa using hx
    rw [hread, readByte_push16, if_neg hlow, if_neg hhigh]

theorem readWord_sp_of_pushed {v : Word} {s t : State} (h : Pushed v s t) : t.readWord t.sp = v := by
  obtain ⟨hsp, hhigh, hlow, -⟩ := h
  rw [hsp, State.readWord, sub_two_add_one, hhigh, hlow, joinBytes_high_low]

theorem pop16_eq_readWord (s : State) : pop16 s = (s.readWord s.sp, { s with sp := s.sp + 2 }) := by
  rw [pop16_eq, add_one_add_one, State.readWord]

/-- `Pop16` reverses `Push16`, in any state that kept SP and the two bytes pushed. -/
theorem pop16_of_pushed {v : Word} {s t : State} (h : Pushed v s t) : pop16 t = (v, { t with sp := s.sp }) := by
  have hword := readWord_sp_of_pushed h
  obtain ⟨hsp, -⟩ := h
  rw [pop16_eq_readWord, hword, hsp, BitVec.sub_add_cancel]

/-! ## What a transfer of control leaves (R452 to R462) -/

/-- The target of JR is the sum of R452, in which 0xFF00 is above a negative displacement (R115). -/
theorem relativeTarget_eq_ofNat (pc : Word) (e8 : Byte) :
    pc + signExtend16 e8 =
      BitVec.ofNat 16 (pc.toNat + (if e8.toNat < 128 then e8.toNat else e8.toNat + 0xFF00)) := by
  apply BitVec.eq_of_toNat_eq
  rw [BitVec.toNat_add, signExtend16_toNat, BitVec.toNat_ofNat]

section
variable {i : Instr} {s : State} {n : Nat}

theorem jumpsTo_of_exec {target : Word} (hexec : exec i s = finish n { s with pc := target }) :
    JumpsTo i s target n := ⟨_, hexec, rfl, rfl, rfl⟩

theorem calls_of_exec {target : Word} (hexec : exec i s = finish n (callTo target s)) : Calls i s target n :=
  ⟨_, hexec, rfl, pushed_of_push16 rfl rfl, rfl, rfl⟩

theorem returns_of_exec (hexec : exec i s = finish n (returnFrom s)) : Returns i s n :=
  ⟨_, hexec, rfl, add_one_add_one s.sp, rfl, rfl⟩

/-- A conditional transfer is the transfer where its condition holds, and a count alone where it does not. -/
theorem conditional_of_exec {cc : Cond} {t : State} {m : Nat} {P : Prop}
    (hexec : exec i s = if condHolds cc s then finish m t else finish n s)
    (taken : exec i s = finish m t → P) : if condition cc s then P else DoesNothing i s n := by
  rw [condHolds_eq_condition] at hexec
  split
  · next hcond => exact taken (hexec.trans (if_pos hcond))
  · next hcond => exact hexec.trans (if_neg hcond)

end

/-! ## What PUSH and POP leave (R463 to R465) -/

theorem exec_rowPush_eq (q : StackPair) (s : State) :
    exec (rowPush q) s = .next { push16 (readStackPair q s) s with result := .ok 4 } :=
  (exec_rowPush q s).trans (pushPair_eq q s)

theorem exec_rowPop_eq (q : StackPair) (s : State) :
    exec (rowPop q) s = .next { writeStackPair q (pop16 s).1 (pop16 s).2 with result := .ok 3 } :=
  (exec_rowPop q s).trans (popPair_eq q s)

/-- After a push the pair is popped with the word pushed, and SP is where it was. -/
theorem exec_rowPop_of_pushed (q : StackPair) {v : Word} {s t : State} (h : Pushed v s t) :
    exec (rowPop q) t = .next { writeStackPair q v { t with sp := s.sp } with result := .ok 3 } := by
  rw [exec_rowPop_eq, pop16_of_pushed h]

/-- F as it is read keeps its value through the mask: its low nibble is 0 (R35). -/
theorem State.readF_maskF (s : State) : s.readF &&& 0xF0#8 = s.readF := by
  rw [State.readF, BitVec.and_assoc, BitVec.and_self]

theorem State.af_maskF (s : State) : s.af &&& 0xFFF0#16 = s.af := by
  rw [State.af, ← joinBytes_maskF, State.readF_maskF]

/-- F as it is read, stored again, holds the same four flags. -/
theorem hasFlags_of_readF {s t : State} (hf : t.f = s.readF) :
    HasFlags t s.flagZ s.flagN s.flagH s.flagC := by
  simp [HasFlags, State.flagZ, State.flagN, State.flagH, State.flagC, hf, State.readF]

/-! ## The statements -/

/-- Settles O22: what was pushed is at SP, so that the pop reads it. -/
theorem pushPopPrimitives : Obligations.PushPopPrimitives := by
  intro v s
  have hpushed : Pushed v s (push16 v s) := pushed_of_push16 rfl rfl
  have hpop := pop16_of_pushed hpushed
  exact ⟨⟨hpushed, readWord_sp_of_pushed hpushed, rfl⟩, pop16_eq_readWord s, congrArg Prod.fst hpop,
    congrArg (fun r => r.2.sp) hpop⟩

/-- Settles O23: PC is written with the sum of PC and the displacement, or not at all. -/
theorem relativeJumpTargetFrame : Obligations.RelativeJumpTargetFrame := by
  intro e8 s
  simp only [← relativeTarget_eq_ofNat]
  exact ⟨⟨rfl, jumpsTo_of_exec rfl⟩, fun cc =>
    ⟨encode_rowJr cc e8, conditional_of_exec (exec_rowJr cc e8 s) jumpsTo_of_exec⟩⟩

/-- Settles O24: PC is written with the address or with HL, or not at all. -/
theorem absoluteJumpTargetFrame : Obligations.AbsoluteJumpTargetFrame := fun a16 s =>
  ⟨⟨rfl, jumpsTo_of_exec rfl⟩, ⟨rfl, jumpsTo_of_exec rfl⟩, fun cc =>
    ⟨encode_rowJp cc a16, conditional_of_exec (exec_rowJp cc a16 s) jumpsTo_of_exec⟩⟩

/-- Settles O25: each is `callTo` its target. -/
theorem callRestartPushTargetFrame : Obligations.CallRestartPushTargetFrame := fun a16 s =>
  ⟨⟨rfl, calls_of_exec rfl⟩,
    fun cc => ⟨encode_rowCall cc a16, conditional_of_exec (exec_rowCall cc a16 s) calls_of_exec⟩,
    fun t => ⟨encode_rowRst t, restartAddress_eq_ofNat t ▸ calls_of_exec (exec_rowRst t s)⟩⟩

/-- Settles O26: each is `returnFrom`. -/
theorem returnTargetFrame : Obligations.ReturnTargetFrame := fun s =>
  ⟨⟨rfl, returns_of_exec rfl⟩, ⟨rfl, returns_of_exec rfl⟩, fun cc =>
    ⟨encode_rowRet cc, conditional_of_exec (exec_rowRet cc s) returns_of_exec⟩⟩

/-- Settles O27: PUSH is `Push16` of the pair, and POP writes the pair with the word of `Pop16`. -/
theorem pushPopResultFrame : Obligations.PushPopResultFrame := by
  intro q s
  refine ⟨⟨encode_rowPush q, _, exec_rowPush_eq q s, pushed_of_push16 rfl rfl, rfl, rfl⟩,
    encode_rowPop q, _, exec_rowPop_eq q s, ?_, rfl, ?_⟩
  · rw [writeStackPair_sp, pop16_eq_readWord]
  · cases q
    case bc => exact ⟨s.setBC_bc _, rfl⟩
    case de => exact ⟨s.setDE_de _, rfl⟩
    case hl => exact ⟨s.setHL_hl _, rfl⟩
    case af => exact ⟨rfl, maskF_toNat _, rfl⟩

/-- Settles O28: POP AF writes AF with the word PUSH AF pushed, whose low nibble is 0 already. -/
theorem pushAFPopAFRestores : Obligations.PushAFPopAFRestores := by
  intro s
  refine ⟨_, _, exec_rowPush_eq .af s, exec_rowPop_of_pushed .af (pushed_of_push16 rfl rfl), ?_, rfl,
    hasFlags_of_readF ?_⟩
  · exact (State.setAF_af s s.af).trans s.af_maskF
  · calc lowByte s.af &&& 0xF0#8
        = s.readF &&& 0xF0#8 := by rw [State.af, lowByte_joinBytes]
      _ = s.readF := s.readF_maskF

end Sys2Proof.Machine
end

section
/-! PROOFS of the family 47_misc.md. The layers, in order: the step of an inert opcode; what an entry of the CB table
leaves; the rows of the illegal opcodes; the launch parameter; then the statements. -/

namespace Sys2Proof.Machine

open Sys2Proof.Claims

/-! ## The step of an inert opcode (30_encoding.md R125; R500 to R504) -/

/-- The inert rows of one byte: NOP, HALT, DI and EI. -/
theorem inert_rows_of_one_byte : ∀ op ∈ [0x00#8, 0x76#8, 0xF3#8, 0xFB#8],
    instrLength op = 1 ∧ operationOf (decodeBase op 0 0) = .inert := by
  decide

theorem step_of_inert_opcode {s : State} (hop : s.readByte s.pc ∈ [0x00#8, 0x76#8, 0xF3#8, 0xFB#8]) :
    step s = .next { s with pc := s.pc + 1, result := .ok 1 } := by
  obtain ⟨hlen, hinert⟩ := inert_rows_of_one_byte _ hop
  rw [step_of_instrLength_one hlen, exec_eq_perform, hinert]
  rfl

/-- STOP's operand byte is fetched, so that PC is past it, and then ignored (R501). -/
theorem step_of_stop_opcode {s : State} (hop : s.readByte s.pc = 0x10#8) :
    step s = .next { s with pc := s.pc + 2, result := .ok 1 } := by
  have hbase : s.readByte s.pc ≠ Config.cbPrefix := by
    rw [hop]
    decide
  have hpc : s.pc + 1 + 1 = s.pc + 2 := add_one_add_one s.pc
  rw [step, fetchInstr_base hbase, hop, fetchBase_two _ rfl, ← hpc]
  rfl

/-! ## What an entry of the CB table leaves (R122, R508, R706) -/

theorem ok_costBy_cases (r : Operand8) (reg mem : Nat) :
    StepResult.ok (costBy r reg mem) = .ok reg ∨ StepResult.ok (costBy r reg mem) = .ok mem := by
  cases r
  case indHL => exact .inr rfl
  case a | b | c | d | e | h | l => exact .inl rfl

theorem performCB_leaves (cb : Byte) (s : State) :
    ∃ t, performCB cb s = .next t ∧ (t.result = .ok 2 ∨ t.result = .ok 3 ∨ t.result = .ok 4) ∧ t.pc = s.pc := by
  rw [performCB]
  split
  · exact ⟨_, rotateOperand_eq .., (ok_costBy_cases _ 2 4).imp_right .inr, writeOperand_pc ..⟩
  · exact ⟨_, bitTest_eq .., (ok_costBy_cases _ 2 3).imp_right .inl, rfl⟩
  · exact ⟨_, bitReset_eq .., (ok_costBy_cases _ 2 4).imp_right .inr, writeOperand_pc ..⟩
  · exact ⟨_, bitSet_eq .., (ok_costBy_cases _ 2 4).imp_right .inr, writeOperand_pc ..⟩

theorem exec_prefixCB (s : State) :
    exec .prefixCB s = exec (decodeCB (s.readByte s.pc)) { s with pc := s.pc + 1 } :=
  (exec_decodeCB (s.readByte s.pc) { s with pc := s.pc + 1 }).symm

theorem step_of_prefix {s : State} (hop : s.readByte s.pc = Config.cbPrefix) :
    step s = exec .prefixCB { s with pc := s.pc + 1 } := by
  rw [step, fetchInstr_prefix hop, exec_prefixCB]
  rfl

/-! ## The rows of the illegal opcodes (R123, R509) -/

theorem illegalRows_tables : ∀ row ∈ illegalRows,
    encode row.1 = [row.2] ∧ operationOf row.1 = .illegal row.2 ∧
      instrLength row.2 = 1 ∧ decodeBase row.2 0 0 = row.1 := by
  decide

/-- No row but the eleven takes the exception. -/
theorem mem_illegalRows_of_operationOf {i : Instr} {op : Byte} (h : operationOf i = .illegal op) :
    (i, op) ∈ illegalRows := by
  cases i
  case illegalD3 | illegalDB | illegalDD | illegalE3 | illegalE4 | illegalEB | illegalEC | illegalED | illegalF4 |
      illegalFC | illegalFD =>
    cases h
    simp [illegalRows]
  all_goals cases h

theorem exec_of_mem_illegalRows {row : Instr × Byte} (hrow : row ∈ illegalRows) (s : State) :
    exec row.1 s = .next { s with
      pc := if s.illegalMode = .hang then s.pc - 1 else s.pc
      result := if s.illegalMode = .nop then .ok 1 else .illegal row.2 } := by
  obtain ⟨-, hoperation, -⟩ := illegalRows_tables row hrow
  rw [exec_eq_perform, hoperation]
  exact takeIllegalOpcode_next row.2 s

/-- As a step: `hang` mode takes back the one byte fetched. -/
theorem step_of_mem_illegalRows {row : Instr × Byte} (hrow : row ∈ illegalRows) {s : State}
    (hop : s.readByte s.pc = row.2) :
    step s = .next { s with
      pc := if s.illegalMode = .hang then s.pc else s.pc + 1
      result := if s.illegalMode = .nop then .ok 1 else .illegal row.2 } := by
  obtain ⟨-, -, hlen, hdecode⟩ := illegalRows_tables row hrow
  have hback : s.pc + 1 - 1 = s.pc := BitVec.add_sub_cancel ..
  rw [step_of_instrLength_one (hop.symm ▸ hlen), hop, hdecode, exec_of_mem_illegalRows hrow, hback]

/-! ## The launch parameter (R6; log entry 2) -/

/-- The same state under another launch parameter. -/
def State.inMode (s : State) (m : IllegalOpcodeMode) : State := { s with illegalMode := m }

theorem condHolds_inMode (cc : Cond) (s : State) (m : IllegalOpcodeMode) :
    condHolds cc (s.inMode m) = condHolds cc s := by
  cases cc <;> rfl

/-- `run` answers a next state that is the same in every mode but for the mode. -/
def SameInEveryMode (run : State → Answer) : Prop :=
  ∀ s m, ∃ t, run s = .next t ∧ run (s.inMode m) = .next (t.inMode m)

theorem SameInEveryMode.illegalMode_eq {run : State → Answer} (hrun : SameInEveryMode run) {s t : State}
    (h : run s = .next t) : t.illegalMode = s.illegalMode := by
  obtain ⟨u, hu, humode⟩ := hrun s s.illegalMode
  have hself : u = u.inMode s.illegalMode := Host.Outcome.next.inj (hu.symm.trans humode)
  cases h.symm.trans hu
  calc t.illegalMode
      = (t.inMode s.illegalMode).illegalMode := congrArg State.illegalMode hself
    _ = s.illegalMode := rfl

/-- An operation's selectors and its condition choose among registers, flags and memory, and no other part of it
depends on the state. -/
theorem perform_sameInEveryMode_of_ne_prefixCB {o : Operation} (hprefix : o ≠ .prefixCB)
    (hillegal : ∀ op, o ≠ .illegal op) : SameInEveryMode (perform o) := by
  intro s m
  cases o
  case prefixCB => exact absurd rfl hprefix
  case illegal op => exact absurd rfl (hillegal op)
  case alu _ r | inc r | dec r | rot _ r | bit _ r | res _ r | set _ r | ldImm8 r _ =>
    cases r <;> exact ⟨_, rfl, rfl⟩
  case ld dst src => cases dst <;> cases src <;> exact ⟨_, rfl, rfl⟩
  case addHL p | incPair p | decPair p | ldImm16 p _ | push p | pop p | storeInd p | loadInd p =>
    cases p <;> exact ⟨_, rfl, rfl⟩
  case jrIf | jpIf | callIf | retIf =>
    simp only [perform, jumpRelativeIf, jumpIf, callIf, returnIf, condHolds_inMode]
    split <;> exact ⟨_, rfl, rfl⟩
  case aluImm | daa | rotA | storeHigh | loadHigh | storeHighC | loadHighC | storeAbs | loadAbs | storeSP |
      spFromHL | addSP | hlFromSP | jr | jp | jpHL | call | ret | rst | inert | cpl | scf | ccf =>
    exact ⟨_, rfl, rfl⟩

theorem performCB_sameInEveryMode (cb : Byte) : SameInEveryMode (performCB cb) := by
  change SameInEveryMode fun s => performCB cb s
  simp only [performCB_eq]
  split <;> exact perform_sameInEveryMode_of_ne_prefixCB nofun nofun

theorem perform_sameInEveryMode {o : Operation} (hillegal : ∀ op, o ≠ .illegal op) :
    SameInEveryMode (perform o) := by
  by_cases hprefix : o = .prefixCB
  · subst hprefix
    exact fun s m => performCB_sameInEveryMode (s.readByte s.pc) { s with pc := s.pc + 1 } m
  · exact perform_sameInEveryMode_of_ne_prefixCB hprefix hillegal

/-- No operation writes the launch parameter. -/
theorem perform_illegalMode {o : Operation} {s t : State} (h : perform o s = .next t) :
    t.illegalMode = s.illegalMode := by
  by_cases hillegal : ∃ op, o = .illegal op
  · obtain ⟨op, rfl⟩ := hillegal
    rw [perform, takeIllegalOpcode_next] at h
    cases h
    rfl
  · exact (perform_sameInEveryMode (not_exists.mp hillegal)).illegalMode_eq h

/-! ## The statements -/

/-- Settles O29: the five are the inert operation, as instructions and at PC. -/
theorem inertInstructionsChangeNothing : Obligations.InertInstructionsChangeNothing := fun _ _ =>
  ⟨⟨rfl, rfl⟩, ⟨rfl, rfl⟩, ⟨rfl, rfl⟩, ⟨rfl, rfl⟩, ⟨rfl, rfl⟩, step_of_inert_opcode, step_of_stop_opcode⟩

/-- Settles O30: CPL writes A with its complement, and each of the three packs the flags. -/
theorem complementCarryFlagsFrame : Obligations.ComplementCarryFlagsFrame := fun s =>
  ⟨⟨rfl, _, complementA_eq s, BitVec.toNat_not, hasFlags_of_f rfl, rfl, rfl⟩,
    ⟨rfl, _, setCarry_eq s, hasFlags_of_f rfl, rfl, rfl⟩,
    ⟨rfl, _, complementCarry_eq s, hasFlags_of_f rfl, rfl, rfl⟩⟩

/-- Settles O31: `prefixCB` performs the entry of the byte it fetches, which leaves PC past that byte. -/
theorem prefixRunsTableEntry : Obligations.PrefixRunsTableEntry :=
  ⟨fun s => ⟨exec_prefixCB s, performCB_leaves (s.readByte s.pc) { s with pc := s.pc + 1 }⟩,
    fun _ => step_of_prefix⟩

/-- Settles O32: each of the eleven rows is one byte that takes the exception. -/
theorem illegalOpcodeOutcome : Obligations.IllegalOpcodeOutcome := by
  intro row hrow s
  obtain ⟨hencode, -⟩ := illegalRows_tables row hrow
  exact ⟨hencode, exec_of_mem_illegalRows hrow s, step_of_mem_illegalRows hrow⟩

/-- Settles O57: an instruction outside the eleven rows is no illegal operation, and only that looks at the mode. -/
theorem launchParameterOnlyGuidesIllegalOpcodes : Obligations.LaunchParameterOnlyGuidesIllegalOpcodes := by
  refine ⟨fun i s t h => perform_illegalMode ((exec_eq_perform i s).symm.trans h), fun i s m hlegal => ?_⟩
  have hillegal : ∀ op, operationOf i ≠ .illegal op := fun op hop =>
    hlegal (i, op) (mem_illegalRows_of_operationOf hop) rfl
  simp only [exec_eq_perform]
  exact perform_sameInEveryMode hillegal s m

end Sys2Proof.Machine
end

section
/-! PROOFS of the family 60_exceptions.md. The layers, in order: the illegal opcode at PC; the count of every other
operation; then the statement. -/

namespace Sys2Proof.Machine

open Sys2Proof.Claims

/-! ## The illegal opcode at PC (30_encoding.md R123, R125) -/

theorem illegalOpcodes_eq_map : illegalOpcodes = illegalRows.map Prod.snd := rfl

/-- The bytes at PC begin with the encoding of the fetched instruction. -/
theorem encode_fetchInstr (s : State) : ∃ left, encode (fetchInstr s).1 ++ left = bytesAtPC s := by
  obtain ⟨rest, hfetch⟩ := decode_bytesAtPC s
  obtain ⟨i, left, hdecode, -, hbytes⟩ :=
    exists_decode_three_bytes (s.readByte s.pc) (s.readByte (s.pc + 1)) (s.readByte (s.pc + 2)) []
  cases hfetch.symm.trans hdecode
  exact ⟨_, hbytes⟩

/-- A fetch answers an illegal instruction only from the byte at PC. -/
theorem mem_illegalOpcodes_of_fetchInstr {s : State} {op : Byte} (h : operationOf (fetchInstr s).1 = .illegal op) :
    s.readByte s.pc ∈ illegalOpcodes := by
  have hrow := mem_illegalRows_of_operationOf h
  obtain ⟨hencode, -⟩ := illegalRows_tables _ hrow
  obtain ⟨left, hbytes⟩ := encode_fetchInstr s
  rw [hencode] at hbytes
  have hop : op = s.readByte s.pc := (List.cons.inj hbytes).1
  rw [← hop, illegalOpcodes_eq_map]
  exact List.mem_map_of_mem hrow

/-! ## The count of every other operation (R42, R128) -/

/-- An answer is a next state whose result is a count of at least 1. -/
def EndsInCount (answer : Answer) : Prop := ∃ t n, answer = .next t ∧ t.result = .ok n ∧ 1 ≤ n

theorem endsInCount_finish {n : Nat} (hn : 1 ≤ n) (s : State) : EndsInCount (finish n s) :=
  ⟨_, n, finish_next.mpr rfl, rfl, hn⟩

theorem le_costBy {r : Operand8} {k reg mem : Nat} (hreg : k ≤ reg) (hmem : k ≤ mem) : k ≤ costBy r reg mem := by
  cases r
  case indHL => exact hmem
  case a | b | c | d | e | h | l => exact hreg

theorem endsInCount_performCB (cb : Byte) (s : State) : EndsInCount (performCB cb s) := by
  obtain ⟨t, hnext, hcount, -⟩ := performCB_leaves cb s
  obtain h | h | h := hcount <;> exact ⟨t, _, hnext, h, by decide⟩

/-- An operation finishes with a fixed count, with one of two by its operand or by its condition, or with that of its
entry in the CB table. -/
theorem endsInCount_perform {o : Operation} (hillegal : ∀ op, o ≠ .illegal op) (s : State) :
    EndsInCount (perform o s) := by
  cases o
  case illegal op => exact absurd rfl (hillegal op)
  case prefixCB => exact endsInCount_performCB ..
  case ld =>
    exact endsInCount_finish (le_costBy (le_costBy (by decide) (by decide)) (by decide)) _
  case alu | inc | dec | rot | bit | res | set | ldImm8 =>
    exact endsInCount_finish (le_costBy (by decide) (by decide)) _
  case jrIf | jpIf | callIf | retIf =>
    simp only [perform, jumpRelativeIf, jumpIf, callIf, returnIf]
    split <;> exact endsInCount_finish (by decide) _
  case aluImm | daa | addHL | incPair | decPair | rotA | ldImm16 | storeInd | loadInd | storeHigh | loadHigh |
      storeHighC | loadHighC | storeAbs | loadAbs | storeSP | spFromHL | addSP | hlFromSP | jr | jp | jpHL | call |
      ret | rst | push | pop | inert | cpl | scf | ccf =>
    exact endsInCount_finish (by decide) _

theorem endsInCount_step {s : State} (hlegal : s.readByte s.pc ∉ illegalOpcodes) : EndsInCount (step s) := by
  rw [step, exec_eq_perform]
  exact endsInCount_perform (fun _ hop => hlegal (mem_illegalOpcodes_of_fetchInstr hop)) _

/-! ## The statement -/

/-- Settles O33: an illegal opcode's row says what its step leaves in each mode; any other step ends in a count. -/
theorem onlyIllegalOpcodesRaise : Obligations.OnlyIllegalOpcodesRaise := by
  intro s
  by_cases hop : s.readByte s.pc ∈ illegalOpcodes
  · obtain ⟨row, hrow, hbyte⟩ := List.mem_map.mp (illegalOpcodes_eq_map ▸ hop)
    refine ⟨_, step_of_mem_illegalRows hrow hbyte.symm, ?_⟩
    by_cases hmode : s.illegalMode = .nop
    · rw [if_neg fun h => h.2 hmode]
      exact ⟨1, if_pos hmode, le_rfl⟩
    · rw [if_pos ⟨hop, hmode⟩, ← hbyte]
      exact ⟨if_neg hmode, rfl⟩
  · obtain ⟨t, n, hnext, hcount⟩ := endsInCount_step hop
    refine ⟨t, hnext, ?_⟩
    rw [if_neg fun h => hop h.1]
    exact ⟨n, hcount⟩

end Sys2Proof.Machine
end

section
/-! PROOFS of the family 70_reset_and_hazards.md. The layers, in order: the count an operation ends with; the counts of
the rows of the two opcode maps; the count of a step; a conditional transfer taken and not taken; the last step's
result; then the statements. -/

namespace Sys2Proof.Machine

open Sys2Proof.Claims

/-! ## The count an operation ends with (R127, R706) -/

/-- The count of an operation, from the Cycles lines of the rules, by whether a conditional one is taken. The row
`prefixCB` and the illegal opcodes have none in the base table, and 0 here. -/
def Operation.count (o : Operation) (taken : Bool) : Nat :=
  match o with
  | .daa | .rotA _ | .jpHL | .inert | .cpl | .scf | .ccf => 1
  | .aluImm _ _ | .addHL _ | .incPair _ | .decPair _ | .storeInd _ | .loadInd _ | .storeHighC | .loadHighC
  | .spFromHL => 2
  | .ldImm16 _ _ | .storeHigh _ | .loadHigh _ | .hlFromSP _ | .jr _ | .pop _ => 3
  | .storeAbs _ | .loadAbs _ | .addSP _ | .jp _ | .ret | .rst _ | .push _ => 4
  | .storeSP _ => 5
  | .call _ => 6
  | .alu _ r => costBy r 1 2
  | .inc r | .dec r => costBy r 1 3
  | .rot _ r | .res _ r | .set _ r => costBy r 2 4
  | .bit _ r => costBy r 2 3
  | .ld dst src => costBy dst (costBy src 1 2) 2
  | .ldImm8 dst _ => costBy dst 2 3
  | .jrIf _ _ => if taken then 3 else 2
  | .jpIf _ _ => if taken then 4 else 3
  | .callIf _ _ => if taken then 6 else 3
  | .retIf _ => if taken then 5 else 2
  | .prefixCB | .illegal _ => 0

/-- The operation has a count of its own, and if it is conditional, its condition is `cc`. -/
def Operation.countsUnder (cc : Cond) (o : Operation) : Bool :=
  match o with
  | .jrIf own _ | .jpIf own _ | .callIf own _ | .retIf own => decide (own = cc)
  | .prefixCB | .illegal _ => false
  | _ => true

theorem perform_count {o : Operation} {cc : Cond} (ho : o.countsUnder cc = true) (s : State) :
    ∃ t, perform o s = finish (o.count (condition cc s)) t := by
  cases o
  case prefixCB | illegal => cases ho
  case jrIf | jpIf | callIf | retIf =>
    obtain rfl := of_decide_eq_true ho
    simp only [perform, jumpRelativeIf, jumpIf, callIf, returnIf, condHolds_eq_condition, Operation.count]
    split <;> exact ⟨_, rfl⟩
  case alu | aluImm | inc | dec | daa | addHL | incPair | decPair | rotA | rot | bit | res | set | ld | ldImm8 |
      ldImm16 | storeInd | loadInd | storeHigh | loadHigh | storeHighC | loadHighC | storeAbs | loadAbs | storeSP |
      spFromHL | addSP | hlFromSP | jr | jp | jpHL | call | ret | rst | push | pop | inert | cpl | scf | ccf =>
    exact ⟨_, rfl⟩

theorem exec_count {i : Instr} {cc : Cond} (hi : (operationOf i).countsUnder cc = true) (s : State) :
    ∃ t, exec i s = .next t ∧ t.result = .ok ((operationOf i).count (condition cc s)) := by
  obtain ⟨t, ht⟩ := perform_count hi s
  exact ⟨_, (exec_eq_perform i s).trans ht, rfl⟩

/-! ## The counts of the rows of the two opcode maps (R133, R134, R706) -/

theorem count_decodeBase (op lo hi : Byte) (taken : Bool) :
    (operationOf (decodeBase op lo hi)).count taken = if taken then (baseCycles op).1 else (baseCycles op).2 := by
  induction op using byte_cases with
  | literal n hn => cases taken <;> interval_cases n <;> rfl

/-- A conditional row's condition is in bits 4..3 of its opcode (R107). -/
theorem countsUnder_decodeBase (op lo hi : Byte) :
    (operationOf (decodeBase op lo hi)).countsUnder (condOf (fieldY op % 4)) =
      decide (op ∉ Config.cbPrefix :: illegalOpcodes) := by
  induction op using byte_cases with
  | literal n hn => interval_cases n <;> rfl

theorem count_decodeCB (cb : Byte) (taken : Bool) : (operationOf (decodeCB cb)).count taken = cbCycles cb := by
  induction cb using byte_cases with
  | literal n hn => interval_cases n <;> rfl

theorem countsUnder_decodeCB (cb : Byte) (cc : Cond) : (operationOf (decodeCB cb)).countsUnder cc = true := by
  induction cb using byte_cases with
  | literal n hn => interval_cases n <;> rfl

/-! ## The count of a step (R125, R706) -/

theorem condition_with_pc (cc : Cond) (s : State) (pc : Word) : condition cc { s with pc := pc } = condition cc s := by
  cases cc <;> rfl

theorem step_count_of_prefix {s : State} (hop : s.readByte s.pc = Config.cbPrefix) :
    ∃ t, step s = .next t ∧ t.result = .ok (cbCycles (s.readByte (s.pc + 1))) := by
  rw [step, fetchInstr_prefix hop]
  simpa only [count_decodeCB] using exec_count (countsUnder_decodeCB _ .z) _

theorem step_count_of_base {s : State} (hprefix : s.readByte s.pc ≠ Config.cbPrefix)
    (hlegal : s.readByte s.pc ∉ illegalOpcodes) :
    ∃ t, step s = .next t ∧ t.result = .ok (if condition (condOf (fieldY (s.readByte s.pc) % 4)) s
      then (baseCycles (s.readByte s.pc)).1 else (baseCycles (s.readByte s.pc)).2) := by
  obtain ⟨lo, hi, hfetch⟩ := fetchBase_cases (s.readByte s.pc) { s with pc := s.pc + 1 }
  have hcounts := (countsUnder_decodeBase (s.readByte s.pc) lo hi).trans
    (decide_eq_true (List.not_mem_cons_of_ne_of_not_mem hprefix hlegal))
  rw [step, fetchInstr_base hprefix, hfetch, ← count_decodeBase _ lo hi, ← condition_with_pc _ s]
  exact exec_count hcounts _

/-! ## A conditional transfer taken and not taken (R707) -/

theorem taken_costs_more {i : Instr} {cc : Cond} {n k : Nat} {target : State → State}
    (hexec : ∀ s, exec i s = if condHolds cc s then finish n (target s) else finish k s) (hlt : k < n)
    {s u : State} (hs : condition cc s = true) (hu : condition cc u = false) :
    ∃ t v n' k', exec i s = .next t ∧ exec i u = .next v ∧ t.result = .ok n' ∧ v.result = .ok k' ∧ k' < n' := by
  rw [← condHolds_eq_condition] at hs hu
  exact ⟨_, _, n, k, (hexec s).trans (if_pos hs), (hexec u).trans (if_neg (Bool.eq_false_iff.mp hu)), rfl, rfl, hlt⟩

/-! ## The last step's result (R608; log entry 5) -/

/-- `run` answers the same whatever the last step's result is. -/
def IgnoresResult (run : State → Answer) : Prop := ∀ s r, run { s with result := r } = run s

/-- An operation's selectors and its condition choose among registers, flags and memory, and its end writes the
result anew. -/
theorem perform_ignoresResult_of_ne_prefixCB {o : Operation} (hprefix : o ≠ .prefixCB) :
    IgnoresResult (perform o) := by
  intro s r
  cases o
  case prefixCB => exact absurd rfl hprefix
  case illegal => simp only [perform, takeIllegalOpcode_next]
  case alu _ q | inc q | dec q | rot _ q | bit _ q | res _ q | set _ q | ldImm8 q _ => cases q <;> rfl
  case ld dst src => cases dst <;> cases src <;> rfl
  case addHL p | incPair p | decPair p | ldImm16 p _ | push p | pop p | storeInd p | loadInd p => cases p <;> rfl
  case jrIf cc _ | jpIf cc _ | callIf cc _ | retIf cc => cases cc <;> rfl
  case aluImm | daa | rotA | storeHigh | loadHigh | storeHighC | loadHighC | storeAbs | loadAbs | storeSP |
      spFromHL | addSP | hlFromSP | jr | jp | jpHL | call | ret | rst | inert | cpl | scf | ccf =>
    rfl

theorem performCB_ignoresResult (cb : Byte) : IgnoresResult (performCB cb) := by
  change IgnoresResult fun s => performCB cb s
  simp only [performCB_eq]
  split <;> exact perform_ignoresResult_of_ne_prefixCB nofun

theorem perform_ignoresResult (o : Operation) : IgnoresResult (perform o) := by
  by_cases hprefix : o = .prefixCB
  · subst hprefix
    exact fun s r => performCB_ignoresResult (s.readByte s.pc) { s with pc := s.pc + 1 } r
  · exact perform_ignoresResult_of_ne_prefixCB hprefix

/-! ## The statements -/

/-- Settles O52: the tables' figures are the counts of the fetched row's operation; an illegal opcode's row says what
its step leaves in `nop` mode. -/
theorem cycleCountsFollowTheTables : Obligations.CycleCountsFollowTheTables := by
  intro s op cb
  by_cases hprefix : op = 0xCB#8
  · obtain ⟨t, hnext, hcount⟩ := step_count_of_prefix hprefix
    exact ⟨t, hnext, (if_pos hprefix).mpr hcount⟩
  by_cases hop : op ∈ illegalOpcodes
  · obtain ⟨row, hrow, hbyte⟩ := List.mem_map.mp (illegalOpcodes_eq_map ▸ hop)
    refine ⟨_, step_of_mem_illegalRows hrow hbyte.symm, ?_⟩
    rw [if_neg hprefix, if_pos hop]
    exact fun hmode => if_pos hmode
  · obtain ⟨t, hnext, hcount⟩ := step_count_of_base hprefix hop
    refine ⟨t, hnext, ?_⟩
    rw [if_neg hprefix, if_neg hop]
    exact hcount

/-- Settles O53: each of the four rows is an `if` of its condition between the two counts. -/
theorem takenCostsMoreThanNotTaken : Obligations.TakenCostsMoreThanNotTaken := by
  intro cc e8 a16 s u hs hu i hi
  simp only [List.mem_cons, List.not_mem_nil, or_false] at hi
  obtain rfl | rfl | rfl | rfl := hi
  · exact taken_costs_more (exec_rowJr cc e8) (by decide) hs hu
  · exact taken_costs_more (exec_rowJp cc a16) (by decide) hs hu
  · exact taken_costs_more (exec_rowCall cc a16) (by decide) hs hu
  · exact taken_costs_more (exec_rowRet cc) (by decide) hs hu

/-- Settles O56: the operation of every instruction ignores the result. -/
theorem noInstructionReadsTheResult : Obligations.NoInstructionReadsTheResult := by
  intro i s r
  simp only [exec_eq_perform]
  exact perform_ignoresResult (operationOf i) s r

end Sys2Proof.Machine
end
